-- ==== Sys2Proof/Word.lean ====
section
/-! DEFINITION. The word types of the block (spec/00_scope.md R8, R9, R11): bytes, the 64-bit integer of the
temperature path, and the 64-bit floating-point value as its bit pattern. -/

namespace Sys2Proof

/-- A byte: an unsigned 8-bit value (R9). -/
abbrev Byte := BitVec 8

/-- A raw block: a finite sequence of bytes that carries its own length (R9, R82). -/
abbrev Block := List Byte

/-- `i64`: a 64-bit two's-complement integer (R8, R110). -/
abbrev I64 := BitVec 64

/-- `f64`: a 64-bit floating-point value, held as its pattern `bits(x)` (R11). -/
abbrev F64 := BitVec 64

end Sys2Proof
end

