-- ==== Sys2Proof/Config.lean ====
section
/-! DEFINITION. What an implementation fixes (spec/00_scope.md R7, spec/20_memory.md R58) and the free values:
constants with no body, of which nothing can be proved. -/

namespace Sys2Proof

/-- The four floating-point operations of R11. -/
inductive FloatOp where
  | add | sub | mul | div
  deriving DecidableEq, Repr

namespace Config

/-- `LEN_CAL1` (R7, R50). -/
abbrev lenCal1 : Nat := 24

/-- `LEN_CAL2` (R7, R50). -/
abbrev lenCal2 : Nat := 1

/-- `LEN_CAL3` (R7, R50). -/
abbrev lenCal3 : Nat := 7

/-- `LEN_MEAS` (R7, R50). -/
abbrev lenMeas : Nat := 8

/-- FREE VALUE. The pattern of the NaN that an operation yields on two given operands. R116 takes the arithmetic of
IEEE 754, which does not fix it, and the spec states none. Log entry 10. -/
opaque freeNaN : FloatOp → F64 → F64 → F64

/-- FREE VALUE. `f64(i)` for an integer of magnitude above 2^53: R11 and R117 state the conversion below that only.
Log entry 11. -/
opaque freeOfInt : Int → F64

/-- One region of the SENSOR space that the host reads or writes (R58): its first register address and its length.
The block never receives these (D25, R34). -/
structure SensorRegion where
  start : Byte
  length : Nat
  deriving DecidableEq, Repr

/-- `ADDR_CAL1`, read into CAL1 (R58). -/
def sensorCal1 : SensorRegion := ⟨0x88, lenCal1⟩

/-- `ADDR_CAL2`, read into CAL2 (R58). -/
def sensorCal2 : SensorRegion := ⟨0xA1, lenCal2⟩

/-- `ADDR_CAL3`, read into CAL3 (R58). -/
def sensorCal3 : SensorRegion := ⟨0xE1, lenCal3⟩

/-- `ADDR_DATA`, read into MEAS (R58). -/
def sensorMeas : SensorRegion := ⟨0xF7, lenMeas⟩

/-- `ADDR_CTRL`, written by the host (R58). -/
def sensorCtrl : SensorRegion := ⟨0xF4, 1⟩

/-- `ADDR_CTRL_HUM`, written by the host (R58). -/
def sensorCtrlHum : SensorRegion := ⟨0xF2, 1⟩

/-- The oversampling factor of temperature, pressure and humidity (R58). -/
def oversampling : Nat := 2

/-- Forced mode (R58). -/
def forcedMode : Nat := 1

end Config
end Sys2Proof
end

