-- ==== Sys2Proof/Syntax.lean ====
section
/-! DEFINITION. The instructions of the block, one constructor per row of spec/opcode_table.json (spec/30_encoding.md
R70, R81, R85). -/

namespace Sys2Proof

/-- The instructions: the six commands (R81), the 21 micro-operations and the 25 stages (R85). -/
inductive Instr where
  /-- RESET, code 0x00, 46_commands.md R231. -/
  | reset
  /-- RDREG, code 0x01, 46_commands.md R232: the register index. -/
  | rdreg (idx : Byte)
  /-- DECODE_CAL, code 0x10, 46_commands.md R224: the blocks CAL1, CAL2, CAL3. -/
  | decodeCal (b24 b1 b7 : Block)
  /-- LDSAMPLE, code 0x20, 42_sample_unpack.md R154: pressure, temperature and humidity words. -/
  | ldsample (p t h : BitVec 32)
  /-- UNPACK, code 0x21, 42_sample_unpack.md R155: the block MEAS. -/
  | unpack (m : Block)
  /-- COMPENSATE, code 0x30, 46_commands.md R225. -/
  | compensate
  /-- DEC.T1, number 0x00, 41_calibration_decoder.md R120: reads CAL1. -/
  | decT1 (b : Block)
  /-- DEC.T2, number 0x01, 41_calibration_decoder.md R121: reads CAL1. -/
  | decT2 (b : Block)
  /-- DEC.T3, number 0x02, 41_calibration_decoder.md R122: reads CAL1. -/
  | decT3 (b : Block)
  /-- DEC.P1, number 0x03, 41_calibration_decoder.md R123: reads CAL1. -/
  | decP1 (b : Block)
  /-- DEC.P2, number 0x04, 41_calibration_decoder.md R124: reads CAL1. -/
  | decP2 (b : Block)
  /-- DEC.P3, number 0x05, 41_calibration_decoder.md R125: reads CAL1. -/
  | decP3 (b : Block)
  /-- DEC.P4, number 0x06, 41_calibration_decoder.md R126: reads CAL1. -/
  | decP4 (b : Block)
  /-- DEC.P5, number 0x07, 41_calibration_decoder.md R127: reads CAL1. -/
  | decP5 (b : Block)
  /-- DEC.P6, number 0x08, 41_calibration_decoder.md R128: reads CAL1. -/
  | decP6 (b : Block)
  /-- DEC.P7, number 0x09, 41_calibration_decoder.md R129: reads CAL1. -/
  | decP7 (b : Block)
  /-- DEC.P8, number 0x0A, 41_calibration_decoder.md R130: reads CAL1. -/
  | decP8 (b : Block)
  /-- DEC.P9, number 0x0B, 41_calibration_decoder.md R131: reads CAL1. -/
  | decP9 (b : Block)
  /-- DEC.H1, number 0x0C, 41_calibration_decoder.md R132: reads CAL2. -/
  | decH1 (b : Block)
  /-- DEC.H2, number 0x0D, 41_calibration_decoder.md R133: reads CAL3. -/
  | decH2 (b : Block)
  /-- DEC.H3, number 0x0E, 41_calibration_decoder.md R134: reads CAL3. -/
  | decH3 (b : Block)
  /-- DEC.H4, number 0x0F, 41_calibration_decoder.md R138: reads CAL3. -/
  | decH4 (b : Block)
  /-- DEC.H5, number 0x10, 41_calibration_decoder.md R139: reads CAL3. -/
  | decH5 (b : Block)
  /-- DEC.H6, number 0x11, 41_calibration_decoder.md R135: reads CAL3. -/
  | decH6 (b : Block)
  /-- UNP.P, number 0x12, 42_sample_unpack.md R150: reads MEAS. -/
  | unpP (m : Block)
  /-- UNP.T, number 0x13, 42_sample_unpack.md R151: reads MEAS. -/
  | unpT (m : Block)
  /-- UNP.H, number 0x14, 42_sample_unpack.md R152: reads MEAS. -/
  | unpH (m : Block)
  /-- T.VAR1, stage 0x20, 43_temperature.md R160. -/
  | tVar1
  /-- T.VAR2, stage 0x21, 43_temperature.md R161. -/
  | tVar2
  /-- T.FINE, stage 0x22, 43_temperature.md R163. -/
  | tFine
  /-- T.CENTI, stage 0x23, 43_temperature.md R164. -/
  | tCenti
  /-- T.FAHR, stage 0x24, 43_temperature.md R166. -/
  | tFahr
  /-- P.A1, stage 0x30, 44_pressure.md R181. -/
  | pA1
  /-- P.B1, stage 0x31, 44_pressure.md R182. -/
  | pB1
  /-- P.B2, stage 0x32, 44_pressure.md R183. -/
  | pB2
  /-- P.B3, stage 0x33, 44_pressure.md R184. -/
  | pB3
  /-- P.A2, stage 0x34, 44_pressure.md R185. -/
  | pA2
  /-- P.DEN, stage 0x35, 44_pressure.md R186. -/
  | pDen
  /-- P.GUARD, stage 0x36, 44_pressure.md R187. -/
  | pGuard
  /-- P.Q1, stage 0x37, 44_pressure.md R188. -/
  | pQ1
  /-- P.C1, stage 0x38, 44_pressure.md R189. -/
  | pC1
  /-- P.C2, stage 0x39, 44_pressure.md R190. -/
  | pC2
  /-- P.PA, stage 0x3A, 44_pressure.md R191. -/
  | pPa
  /-- P.HPA, stage 0x3B, 44_pressure.md R192. -/
  | pHpa
  /-- H.G, stage 0x40, 45_humidity.md R201. -/
  | hG
  /-- H.A, stage 0x41, 45_humidity.md R202. -/
  | hA
  /-- H.B, stage 0x42, 45_humidity.md R203. -/
  | hB
  /-- H.C, stage 0x43, 45_humidity.md R204. -/
  | hC
  /-- H.D, stage 0x44, 45_humidity.md R205. -/
  | hD
  /-- H.E, stage 0x45, 45_humidity.md R206. -/
  | hE
  /-- H.F, stage 0x46, 45_humidity.md R207. -/
  | hF
  /-- H.CLAMP, stage 0x47, 45_humidity.md R208. -/
  | hClamp
  deriving DecidableEq, Repr

end Sys2Proof
end

