-- ==== Sys2Proof/WellFormed.lean ====
section
/-! DEFINITION. Which instructions the encoding can carry. A command is well-formed with any payload contents
(spec/70_reset_and_hazards.md R282); a micro-operation reads a block of exactly its row's `block_bytes`
(spec/30_encoding.md R79: its pattern has `8 * len(B)` characters). -/

namespace Sys2Proof

/-- The block a micro-operation reads and the length its row gives that block (R71 to R74, R79). -/
def Instr.rowBlock : Instr → Option (Block × Nat)
  | .decT1 b => some (b, Config.lenCal1)
  | .decT2 b => some (b, Config.lenCal1)
  | .decT3 b => some (b, Config.lenCal1)
  | .decP1 b => some (b, Config.lenCal1)
  | .decP2 b => some (b, Config.lenCal1)
  | .decP3 b => some (b, Config.lenCal1)
  | .decP4 b => some (b, Config.lenCal1)
  | .decP5 b => some (b, Config.lenCal1)
  | .decP6 b => some (b, Config.lenCal1)
  | .decP7 b => some (b, Config.lenCal1)
  | .decP8 b => some (b, Config.lenCal1)
  | .decP9 b => some (b, Config.lenCal1)
  | .decH1 b => some (b, Config.lenCal2)
  | .decH2 b => some (b, Config.lenCal3)
  | .decH3 b => some (b, Config.lenCal3)
  | .decH4 b => some (b, Config.lenCal3)
  | .decH5 b => some (b, Config.lenCal3)
  | .decH6 b => some (b, Config.lenCal3)
  | .unpP m => some (m, Config.lenMeas)
  | .unpT m => some (m, Config.lenMeas)
  | .unpH m => some (m, Config.lenMeas)
  | .reset | .rdreg _ | .decodeCal _ _ _ | .ldsample _ _ _ | .unpack _ | .compensate => none
  | .tVar1 | .tVar2 | .tFine | .tCenti | .tFahr
  | .pA1 | .pB1 | .pB2 | .pB3 | .pA2 | .pDen | .pGuard | .pQ1 | .pC1 | .pC2 | .pPa | .pHpa
  | .hG | .hA | .hB | .hC | .hD | .hE | .hF | .hClamp => none

/-- Well-formed: a micro-operation's block has its row's length. -/
def Instr.wellFormed (i : Instr) : Bool :=
  match i.rowBlock with
  | some (b, n) => b.length == n
  | none => true

end Sys2Proof
end

