-- ==== Sys2Proof/Decode.lean ====
section
/-! DEFINITION. The decoder, total on any frame and rejecting by name, and the encoder beside it (spec/30_encoding.md
R70 to R85, R87). The codes of the commands are R81's, the numbers of micro-operations and stages R85's. -/

namespace Sys2Proof

/-- What a host presents: an 8-bit command code and a payload, a list of byte sequences each with its own length (R80,
R82; the byte form of the payload is log entry 3). It has no other form, so no micro-operation and no stage can be
presented (R70). -/
structure Request where
  code : Byte
  payload : List Block
  deriving DecidableEq, Repr

/-- A micro-operation or a stage, by the number that names it inside its command and in a trace (R85). -/
inductive Micro where
  /-- Format BLK: a field-extracting micro-operation and the block it reads (R79). -/
  | blk (number : Byte) (block : Block)
  /-- Format STG: an arithmetic stage of COMPENSATE. -/
  | stg (number : Byte)
  deriving DecidableEq, Repr

/-- An encoded instruction, in one of the three formats of the opcode table (R70). -/
inductive Frame where
  /-- Format CMD8: a host command (R80). -/
  | cmd8 (r : Request)
  /-- Formats BLK and STG: a part of a command (R70; log entry 5). -/
  | micro (m : Micro)
  deriving DecidableEq, Repr

/-- Why a frame is no instruction. -/
inductive DecodeError where
  /-- A command code that R81 does not list (R84). The payload is ignored (R244). -/
  | illegalCommand (code : Byte)
  /-- A micro-operation or stage number that R85 does not list. -/
  | unassignedNumber (code : Byte)
  /-- A payload whose shape is not the one its code fixes (R80, R82), or a micro-operation's block whose width is not
  its row's (R79). -/
  | payloadShape (code : Byte)
  deriving DecidableEq, Repr

/-- A 32-bit payload word as four bytes, most significant first (the trace form `20 0004D528 ...`; log entry 3). -/
def wordBytes (w : BitVec 32) : Block :=
  [w.extractLsb' 24 8, w.extractLsb' 16 8, w.extractLsb' 8 8, w.extractLsb' 0 8]

/-- The word of four bytes, most significant first. -/
def bytesWord : Block → Option (BitVec 32)
  | [b3, b2, b1, b0] => some (b3 ++ b2 ++ b1 ++ b0)
  | _ => none

/-- The payload of LDSAMPLE: three words `p`, `t`, `h` (R82). -/
def decodeLdsample : List Block → Option Instr
  | [p, t, h] =>
    match bytesWord p, bytesWord t, bytesWord h with
    | some p, some t, some h => some (.ldsample p t h)
    | _, _, _ => none
  | _ => none

/-- The command of a code and a payload (R81, R82): `none` where the code is unassigned, `some none` where the payload
has not the shape the code fixes. -/
def decodeCmd (code : Byte) (payload : List Block) : Option (Option Instr) :=
  match code.toNat with
  | 0x00 => some (match payload with
    | [] => some .reset
    | _ => none)
  | 0x01 => some (match payload with
    | [[idx]] => some (.rdreg idx)
    | _ => none)
  | 0x10 => some (match payload with
    | [b24, b1, b7] => some (.decodeCal b24 b1 b7)
    | _ => none)
  | 0x20 => some (decodeLdsample payload)
  | 0x21 => some (match payload with
    | [m] => some (.unpack m)
    | _ => none)
  | 0x30 => some (match payload with
    | [] => some .compensate
    | _ => none)
  | _ => none

/-- The micro-operation of a number, applied to its block (R85). -/
def decodeBlk (code : Byte) (b : Block) : Option Instr :=
  match code.toNat with
  | 0x00 => some (.decT1 b)
  | 0x01 => some (.decT2 b)
  | 0x02 => some (.decT3 b)
  | 0x03 => some (.decP1 b)
  | 0x04 => some (.decP2 b)
  | 0x05 => some (.decP3 b)
  | 0x06 => some (.decP4 b)
  | 0x07 => some (.decP5 b)
  | 0x08 => some (.decP6 b)
  | 0x09 => some (.decP7 b)
  | 0x0A => some (.decP8 b)
  | 0x0B => some (.decP9 b)
  | 0x0C => some (.decH1 b)
  | 0x0D => some (.decH2 b)
  | 0x0E => some (.decH3 b)
  | 0x0F => some (.decH4 b)
  | 0x10 => some (.decH5 b)
  | 0x11 => some (.decH6 b)
  | 0x12 => some (.unpP b)
  | 0x13 => some (.unpT b)
  | 0x14 => some (.unpH b)
  | _ => none

/-- The stage of a number (R85). -/
def decodeStg (code : Byte) : Option Instr :=
  match code.toNat with
  | 0x20 => some .tVar1
  | 0x21 => some .tVar2
  | 0x22 => some .tFine
  | 0x23 => some .tCenti
  | 0x24 => some .tFahr
  | 0x30 => some .pA1
  | 0x31 => some .pB1
  | 0x32 => some .pB2
  | 0x33 => some .pB3
  | 0x34 => some .pA2
  | 0x35 => some .pDen
  | 0x36 => some .pGuard
  | 0x37 => some .pQ1
  | 0x38 => some .pC1
  | 0x39 => some .pC2
  | 0x3A => some .pPa
  | 0x3B => some .pHpa
  | 0x40 => some .hG
  | 0x41 => some .hA
  | 0x42 => some .hB
  | 0x43 => some .hC
  | 0x44 => some .hD
  | 0x45 => some .hE
  | 0x46 => some .hF
  | 0x47 => some .hClamp
  | _ => none

/-- The command of a request. -/
def decodeRequest (r : Request) : Except DecodeError Instr :=
  match decodeCmd r.code r.payload with
  | none => .error (.illegalCommand r.code)
  | some none => .error (.payloadShape r.code)
  | some (some i) => .ok i

/-- The instruction of a micro-operation or a stage. -/
def decodeMicro : Micro → Except DecodeError Instr
  | .blk n b =>
    match decodeBlk n b with
    | none => .error (.unassignedNumber n)
    | some i => if i.wellFormed then .ok i else .error (.payloadShape n)
  | .stg n =>
    match decodeStg n with
    | none => .error (.unassignedNumber n)
    | some i => .ok i

/-- The instruction of a frame. -/
def decode : Frame → Except DecodeError Instr
  | .cmd8 r => decodeRequest r
  | .micro m => decodeMicro m

/-- The request of RESET (R81). -/
def Request.reset : Request := ⟨0x00, []⟩

/-- The request of RDREG (R81). -/
def Request.rdreg (idx : Byte) : Request := ⟨0x01, [[idx]]⟩

/-- The request of DECODE_CAL (R81, R82). -/
def Request.decodeCal (b24 b1 b7 : Block) : Request := ⟨0x10, [b24, b1, b7]⟩

/-- The request of LDSAMPLE (R81, R82). -/
def Request.ldsample (p t h : BitVec 32) : Request := ⟨0x20, [wordBytes p, wordBytes t, wordBytes h]⟩

/-- The request of UNPACK (R81, R82). -/
def Request.unpack (m : Block) : Request := ⟨0x21, [m]⟩

/-- The request of COMPENSATE (R81). -/
def Request.compensate : Request := ⟨0x30, []⟩

/-- The frame of an instruction: the code or number of its row (R81, R85) and its payload (R82). -/
def encode : Instr → Frame
  | .reset => .cmd8 .reset
  | .rdreg idx => .cmd8 (.rdreg idx)
  | .decodeCal b24 b1 b7 => .cmd8 (.decodeCal b24 b1 b7)
  | .ldsample p t h => .cmd8 (.ldsample p t h)
  | .unpack m => .cmd8 (.unpack m)
  | .compensate => .cmd8 .compensate
  | .decT1 b => .micro (.blk 0x00 b)
  | .decT2 b => .micro (.blk 0x01 b)
  | .decT3 b => .micro (.blk 0x02 b)
  | .decP1 b => .micro (.blk 0x03 b)
  | .decP2 b => .micro (.blk 0x04 b)
  | .decP3 b => .micro (.blk 0x05 b)
  | .decP4 b => .micro (.blk 0x06 b)
  | .decP5 b => .micro (.blk 0x07 b)
  | .decP6 b => .micro (.blk 0x08 b)
  | .decP7 b => .micro (.blk 0x09 b)
  | .decP8 b => .micro (.blk 0x0A b)
  | .decP9 b => .micro (.blk 0x0B b)
  | .decH1 b => .micro (.blk 0x0C b)
  | .decH2 b => .micro (.blk 0x0D b)
  | .decH3 b => .micro (.blk 0x0E b)
  | .decH4 b => .micro (.blk 0x0F b)
  | .decH5 b => .micro (.blk 0x10 b)
  | .decH6 b => .micro (.blk 0x11 b)
  | .unpP m => .micro (.blk 0x12 m)
  | .unpT m => .micro (.blk 0x13 m)
  | .unpH m => .micro (.blk 0x14 m)
  | .tVar1 => .micro (.stg 0x20)
  | .tVar2 => .micro (.stg 0x21)
  | .tFine => .micro (.stg 0x22)
  | .tCenti => .micro (.stg 0x23)
  | .tFahr => .micro (.stg 0x24)
  | .pA1 => .micro (.stg 0x30)
  | .pB1 => .micro (.stg 0x31)
  | .pB2 => .micro (.stg 0x32)
  | .pB3 => .micro (.stg 0x33)
  | .pA2 => .micro (.stg 0x34)
  | .pDen => .micro (.stg 0x35)
  | .pGuard => .micro (.stg 0x36)
  | .pQ1 => .micro (.stg 0x37)
  | .pC1 => .micro (.stg 0x38)
  | .pC2 => .micro (.stg 0x39)
  | .pPa => .micro (.stg 0x3A)
  | .pHpa => .micro (.stg 0x3B)
  | .hG => .micro (.stg 0x40)
  | .hA => .micro (.stg 0x41)
  | .hB => .micro (.stg 0x42)
  | .hC => .micro (.stg 0x43)
  | .hD => .micro (.stg 0x44)
  | .hE => .micro (.stg 0x45)
  | .hF => .micro (.stg 0x46)
  | .hClamp => .micro (.stg 0x47)

/-! ### Words numbered as the opcode table numbers them (log entry 20) -/

/-- Byte `k` of a table word: bits `8k+7 .. 8k`. -/
def tableByte (w k : Nat) : Byte := BitVec.ofNat 8 (w >>> (8 * k))

/-- `n` bytes of a table word from byte `k` on. -/
def tableBytes (w k n : Nat) : Block := (List.range n).map fun j => tableByte w (k + j)

/-- The payload a command code takes from the bytes after it, each block at its required length. -/
def tablePayload (w : Nat) : List Block :=
  match (tableByte w 0).toNat with
  | 0x01 => [tableBytes w 1 1]
  | 0x10 => [tableBytes w 1 24, tableBytes w 25 1, tableBytes w 26 7]
  | 0x20 => [tableBytes w 1 4, tableBytes w 5 4, tableBytes w 9 4]
  | 0x21 => [tableBytes w 1 8]
  | _ => []

/-- The frame of a table word. A word of the width of CAL1, CAL3 or MEAS is a raw block in which no bit selects the
row (R79): it has no frame. A code that R81 assigns is a command's; any other code that R85 gives a stage is the
stage's; the rest are unassigned command codes. -/
def tableFrame (nbits w : Nat) : Option Frame :=
  if nbits == 192 || nbits == 56 || nbits == 64 then none
  else if (decodeCmd (tableByte w 0) (tablePayload w)).isNone && (decodeStg (tableByte w 0)).isSome then
    some (.micro (.stg (tableByte w 0)))
  else some (.cmd8 ⟨tableByte w 0, tablePayload w⟩)

/-- The instruction that the decoder reads from a table word of `nbits` bits. -/
def decodeTableWord (nbits w : Nat) : Option Instr :=
  match tableFrame nbits w with
  | some f => (decode f).toOption
  | none => none

end Sys2Proof
end

