-- ==== Sys2Proof/Machine/State.lean ====
section
/-! DEFINITION. The state of the block (spec/10_state.md), the responses it gives (spec/30_encoding.md R83), the causes
of spec/60_exceptions.md R240, and the two reasons for which the model stops. -/

namespace Sys2Proof.Machine

/-- The temperature coefficients (R20, R21): `t1` is `u16`, `t2` and `t3` are `s16`. -/
structure TCal where
  t1 : BitVec 16
  t2 : BitVec 16
  t3 : BitVec 16
  deriving DecidableEq, Repr

/-- The pressure coefficients (R20, R21): `p1` is `u16`, the others are `s16`. -/
structure PCal where
  p1 : BitVec 16
  p2 : BitVec 16
  p3 : BitVec 16
  p4 : BitVec 16
  p5 : BitVec 16
  p6 : BitVec 16
  p7 : BitVec 16
  p8 : BitVec 16
  p9 : BitVec 16
  deriving DecidableEq, Repr

/-- The humidity coefficients (R20, R21): `h1` and `h3` are `u8`, `h2` is `s16`, `h4` and `h5` are `s12`, `h6` is
`s8`. -/
structure HCal where
  h1 : BitVec 8
  h2 : BitVec 16
  h3 : BitVec 8
  h4 : BitVec 12
  h5 : BitVec 12
  h6 : BitVec 8
  deriving DecidableEq, Repr

/-- The COEF group: the 18 calibration coefficients (R21). -/
structure Coef where
  t : TCal
  p : PCal
  h : HCal
  deriving DecidableEq, Repr

/-- The SAMPLE group: the raw sample (R24), all unsigned. -/
structure Sample where
  praw : BitVec 20
  traw : BitVec 20
  hraw : BitVec 16
  deriving DecidableEq, Repr

/-- The RESULT group: TFINE and TCENTI (R25), OUT_F, OUT_HPA and OUT_PCT (R26). -/
structure Results where
  tfine : I64
  tcenti : I64
  outF : F64
  outHpa : F64
  outPct : F64
  deriving DecidableEq, Repr

/-- The MODEL's trace scratch: the values that pass from stage to stage of COMPENSATE. They are no register of the
block (R230: they "exist only in traces of a model"). Only the stages run by themselves read or write them, and
RESET puts them back (log entry 6). -/
structure Scratch where
  tv1 : I64
  tv2 : I64
  a1 : F64
  b1 : F64
  b2 : F64
  b3 : F64
  a2 : F64
  a3 : F64
  /-- P.GUARD found the denominator equal to zero, so the stages 0x37 to 0x3A are skipped (R187; log entry 8). -/
  guardFired : Bool
  q1 : F64
  c1 : F64
  c2 : F64
  ppa : F64
  g : F64
  hA : F64
  hB : F64
  hC : F64
  hD : F64
  hE : F64
  hF : F64
  deriving DecidableEq, Repr

/-- The causes of R240 that a command can answer with (code 0, "none", is the value of CAUSE with no fault). -/
inductive Cause where
  | blockLength | sampleWidth | notReady | illegalCommand | badRegister | faulted
  deriving DecidableEq, Repr

/-- What a successful command returns (R81): nothing, the image of a register, or the triple of COMPENSATE. -/
inductive Reply where
  | none
  | image (v : BitVec 64)
  | triple (fahrenheit hpa percent : F64)
  deriving DecidableEq, Repr

/-- The one response of a command (R83): `Ok(result)` or `Fault(code)`. -/
inductive Response where
  | ok (r : Reply)
  | fault (k : Cause)
  deriving DecidableEq, Repr

/-- The whole state of one block. -/
structure State where
  /-- Registers 0x00 to 0x11. -/
  coef : Coef
  /-- Registers 0x12 to 0x14. -/
  sample : Sample
  /-- Registers 0x15, 0x16, 0x18 to 0x1A. -/
  results : Results
  /-- Register 0x1E (R28); its fields are read and written through Machine/Flags.lean. -/
  status : BitVec 8
  /-- Register 0x1F (R29). -/
  cause : BitVec 8
  /-- The host's side: the requests not yet executed, the next one first (R285; log entry 2). -/
  inbox : List Request
  /-- The host's side: the responses given, oldest first (R83, R285; log entry 2). -/
  outbox : List Response
  /-- The MODEL's trace scratch (log entry 6). -/
  scratch : Scratch
  /-- The MODEL's trace of a command under way: the micro-operations and stages of it that are still to run, the next one
  first. No request of a host and no step puts one here: it is empty after reset, and where it is empty it stays
  empty (R70, R230; log entry 5). -/
  micro : List Micro
  deriving DecidableEq, Repr

/-- Why the model stops. No meaning of an instruction stops: every fault the spec names is a next state (R247). -/
inductive Fault where
  /-- Raised by the fetch of `step` on a request whose payload has not the shape its code fixes, which cannot be
  presented, or on an entry of the trace whose block has not its row's width (R79, R80, R82; log entry 4). Safe. -/
  | payloadShape (code : Byte)
  /-- Raised by the fetch of `step` on an entry of the trace whose number is no micro-operation and no stage of R85
  (log entry 4). Safe. -/
  | unassignedNumber (code : Byte)
  deriving DecidableEq, Repr

/-- Why the model has no meaning for an instruction. -/
inductive Refusal where
  /-- Raised by an arm of `exec` whose instruction has no meaning yet. No arm is such a one now. Safe. -/
  | notModelled (mnemonic : String)
  deriving DecidableEq, Repr

/-- The value of a register right after reset, where R35 gives none: zero (log entry 1). -/
def Coef.reset : Coef :=
  { t := ⟨0, 0, 0⟩, p := ⟨0, 0, 0, 0, 0, 0, 0, 0, 0⟩, h := ⟨0, 0, 0, 0, 0, 0⟩ }

/-- As `Coef.reset` (log entry 1). -/
def Sample.reset : Sample := ⟨0, 0, 0⟩

/-- As `Coef.reset` (log entry 1). -/
def Results.reset : Results := ⟨0, 0, 0, 0, 0⟩

/-- The trace scratch right after reset (log entry 6). -/
def Scratch.reset : Scratch := ⟨0, 0, 0, 0, 0, 0, 0, 0, false, 0, 0, 0, 0, 0, 0, 0, 0, 0, 0, 0⟩

/-- The machine right after power-on (R35, R270): STATUS and CAUSE are zero, so no data register can be read, and no
command has been presented. -/
def State.reset : State :=
  { coef := Coef.reset, sample := Sample.reset, results := Results.reset, status := 0, cause := 0,
    inbox := [], outbox := [], scratch := Scratch.reset, micro := [] }

end Sys2Proof.Machine
end

