-- ==== Sys2Proof/Machine/Flags.lean ====
section
/-! DEFINITION. The flags of STATUS (spec/10_state.md R27, R28) and the codes of CAUSE (spec/60_exceptions.md R240).
There is no other flag: no operation sets a carry, overflow, zero, sign or floating-point flag (R31). -/

namespace Sys2Proof.Machine

/-- `CAL_VALID`, bit 0: COEF holds a decoded record. -/
def calMask : BitVec 8 := 0x01

/-- `SMP_VALID`, bit 1: SAMPLE holds a raw sample. -/
def smpMask : BitVec 8 := 0x02

/-- `OUT_VALID`, bit 2: RESULT holds the results of a COMPENSATE on the current COEF. -/
def outMask : BitVec 8 := 0x04

/-- `FAULTED`, bit 7: a command has faulted since the last reset. -/
def faultedMask : BitVec 8 := 0x80

/-- Bits 6:3 are reserved. -/
def reservedMask : BitVec 8 := 0x78

/-- The field of STATUS under a one-bit mask. -/
def statusFlag (status mask : BitVec 8) : Bool := status &&& mask != 0

/-- STATUS with the bits of a mask set. -/
def setFlags (status mask : BitVec 8) : BitVec 8 := status ||| mask

/-- STATUS with the bits of a mask cleared. -/
def clearFlags (status mask : BitVec 8) : BitVec 8 := status &&& ~~~mask

def State.calValid (s : State) : Bool := statusFlag s.status calMask

def State.smpValid (s : State) : Bool := statusFlag s.status smpMask

def State.outValid (s : State) : Bool := statusFlag s.status outMask

def State.faulted (s : State) : Bool := statusFlag s.status faultedMask

/-- STATUS as the host reads it: the reserved bits read as 0 (R28; log entry 18). -/
def State.statusRead (s : State) : BitVec 8 := clearFlags s.status reservedMask

/-- The code of a cause (R240). -/
def Cause.code : Cause → BitVec 8
  | .blockLength => 1
  | .sampleWidth => 2
  | .notReady => 3
  | .illegalCommand => 4
  | .badRegister => 5
  | .faulted => 6

end Sys2Proof.Machine
end

