-- ==== Sys2Proof/Machine/Ops.lean ====
section
/-! DEFINITION. The named operations every command and every stage is made of: the bounds-checked read of a block
(spec/20_memory.md R52), the response (spec/30_encoding.md R83), fault entry and the return from it
(spec/60_exceptions.md R247, R250), the gate of the FAULTED state (spec/46_commands.md R233), and the fetch of the next
request. -/

namespace Sys2Proof.Machine

/-- The outcome of a step of this machine. -/
abbrev StepResult := Host.Outcome State Fault Refusal

/-! ### Block reads -/

/-- `MemRead(B, i, 1)`: `BlockLength` out of range (R52). -/
def memRead1 (b : Block) (i : Nat) : Except Cause Byte :=
  match b[i]? with
  | some x => .ok x
  | none => .error .blockLength

/-- `MemRead(B, i, 2)`: the bytes at `i` and `i + 1`; `BlockLength` out of range (R52). -/
def memRead2 (b : Block) (i : Nat) : Except Cause (Byte × Byte) :=
  match b[i]?, b[i + 1]? with
  | some x, some y => .ok (x, y)
  | _, _ => .error .blockLength

/-! ### Register groups -/

/-- Writes the COEF group. -/
def State.setCoef (s : State) (c : Coef) : State := { s with coef := c }

/-- Writes the SAMPLE group. -/
def State.setSample (s : State) (x : Sample) : State := { s with sample := x }

/-- Writes the RESULT group. -/
def State.setResults (s : State) (r : Results) : State := { s with results := r }

/-- Writes STATUS. -/
def State.setStatus (s : State) (v : BitVec 8) : State := { s with status := v }

/-- Writes CAUSE. -/
def State.setCause (s : State) (v : BitVec 8) : State := { s with cause := v }

/-- Writes the model's trace scratch. -/
def State.setScratch (s : State) (x : Scratch) : State := { s with scratch := x }

/-! ### Responses and faults -/

/-- Gives the one response of a command (R83). -/
def State.respond (s : State) (r : Response) : State := { s with outbox := s.outbox ++ [r] }

/-- A successful command's end: `Ok(result)`. -/
def succeed (r : Reply) (s : State) : StepResult := .next (s.respond (.ok r))

/-- FAULT ENTRY (R247). With FAULTED = 0: no data register and no valid flag is written, FAULTED is set, CAUSE takes the
code, and the response is `Fault(k)`. With FAULTED = 1 nothing is raised: the response is `Fault(Faulted)` and CAUSE
keeps the first cause (R246, R248). -/
def State.raise (k : Cause) (s : State) : State :=
  if s.faulted then s.respond (.fault .faulted)
  else ((s.setStatus (setFlags s.status faultedMask)).setCause k.code).respond (.fault k)

/-- THE RETURN FROM A FAULT (R250, R231) and the reset of R271: the power-on state. The host's own requests and the
responses it has been given stay. -/
def State.restart (s : State) : State := { State.reset with inbox := s.inbox, outbox := s.outbox }

/-- The gate of R233 and R234 (2): in the FAULTED state a command is refused with `Fault(Faulted)` and changes
nothing. -/
def unlessFaulted (s : State) (body : StepResult) : StepResult :=
  if s.faulted then .next (s.respond (.fault .faulted)) else body

/-- The end of a micro-operation: it writes its register, or raises what its block read raised (R52, R240). -/
def latch {α : Type} (value : Except Cause α) (s : State) (write : α → State) : StepResult :=
  match value with
  | .ok v => .next (write v)
  | .error k => .next (s.raise k)

/-! ### Fetch -/

/-- The next micro-operation or stage of a command under way, and the state without it (log entry 5). -/
def fetchMicro (s : State) : Option (Micro × State) :=
  match s.micro with
  | [] => none
  | m :: rest => some (m, { s with micro := rest })

/-- The next request and the state without it. -/
def fetch (s : State) : Option (Request × State) :=
  match s.inbox with
  | [] => none
  | r :: rest => some (r, { s with inbox := rest })

/-- With no request the block holds its state (R264, R285; log entry 2). -/
def idle (s : State) : StepResult := .next s

/-- In the FAULTED state no command runs but RESET and RDREG (R233), and neither has parts: a trace is dropped there
(log entry 5). -/
def dropMicro (s : State) : StepResult := .next { s with micro := [] }

/-- What a frame that is no instruction does. An unassigned command code raises `IllegalCommand`, or is refused in the
FAULTED state (R84, R233, R244); the other frames cannot be presented (log entry 4). -/
def rejectFrame (e : DecodeError) (s : State) : StepResult :=
  match e with
  | .illegalCommand _ => .next (s.raise .illegalCommand)
  | .unassignedNumber code => .fault (.unassignedNumber code)
  | .payloadShape code => .fault (.payloadShape code)

/-- The host presents a request: the very next one fetched, with no command under way (R281). -/
def State.present (s : State) (r : Request) : State := { s with inbox := r :: s.inbox, micro := [] }

/-- The command of a micro-operation or stage is under way, and that is the next part of it to run (log entry 5). -/
def State.trace (s : State) (m : Micro) : State := { s with micro := m :: s.micro }

end Sys2Proof.Machine
end

