-- ==== Sys2Proof/Machine/Operands.lean ====
section
/-! DEFINITION. The extraction primitives (spec/40_primitives.md R100 to R107), the integer shift of R112, and the
register view that RDREG gives (spec/10_state.md R20, spec/46_commands.md R232). -/

namespace Sys2Proof.Machine

/-! ### Primitives -/

/-- `unsigned16(B, i)`: little-endian (R100). -/
def unsigned16 (b : Block) (i : Nat) : Except Cause Int :=
  match memRead2 b i with
  | .ok (lo, hi) => .ok ((lo.toNat : Int) + 256 * (hi.toNat : Int))
  | .error k => .error k

/-- `as_signed_N(u)` (R8). -/
def asSigned (n : Nat) (u : Int) : Int := if u < 2 ^ (n - 1) then u else u - 2 ^ n

/-- `signed16(B, i)` (R101). -/
def signed16 (b : Block) (i : Nat) : Except Cause Int := (unsigned16 b i).map (asSigned 16)

/-- `unsigned8(B, i)`, with the mask WS writes (R102). -/
def unsigned8 (b : Block) (i : Nat) : Except Cause Int :=
  (memRead1 b i).map fun x => ((x &&& 0xFF#8).toNat : Int)

/-- `signed8(B, i)` (R103). -/
def signed8 (b : Block) (i : Nat) : Except Cause Int := (memRead1 b i).map fun x => asSigned 8 (x.toNat : Int)

/-- `hi8_to_12(s)`: the reference shift sequence on a 32-bit signed integer, left 24, then arithmetic right 20 (R104). -/
def hi8To12 (s : Int) : BitVec 32 := (BitVec.ofInt 32 s <<< 24).sshiftRight 20

/-- `sext12(x)`: bits 11:0 of `x` as a 12-bit two's-complement number (R105). -/
def sext12 (x : Int) : Int := if x % 4096 ≥ 2048 then x % 4096 - 4096 else x % 4096

/-- `signed8(..) & 0x0F`, on the two's-complement pattern of a possibly negative value (R106). -/
def lowNibble (s : Int) : BitVec 32 := BitVec.ofInt 32 s &&& 0x0F#32

/-- `unsigned8(..) >> 4`, a logical shift of an unsigned value (R106). -/
def highNibble (u : Int) : BitVec 32 := BitVec.ofInt 32 u >>> 4

/-- `>>a n` on `i64` (R10, R112). -/
def asr (x : I64) (n : Nat) : I64 := x.sshiftRight n

/-! ### The register view -/

/-- The 28 registers (R20). -/
inductive Reg where
  | t1 | t2 | t3
  | p1 | p2 | p3 | p4 | p5 | p6 | p7 | p8 | p9
  | h1 | h2 | h3 | h4 | h5 | h6
  | praw | traw | hraw
  | tfine | tcenti | outF | outHpa | outPct
  | status | cause
  deriving DecidableEq, Repr

/-- The four groups of R20. -/
inductive RegGroup where
  | coef | sample | result | control
  deriving DecidableEq, Repr

/-- The register of an index; 0x17, 0x1B to 0x1D and 0x20 to 0xFF name none (R20). -/
def regOfIndex (idx : Byte) : Option Reg :=
  match idx.toNat with
  | 0x00 => some .t1
  | 0x01 => some .t2
  | 0x02 => some .t3
  | 0x03 => some .p1
  | 0x04 => some .p2
  | 0x05 => some .p3
  | 0x06 => some .p4
  | 0x07 => some .p5
  | 0x08 => some .p6
  | 0x09 => some .p7
  | 0x0A => some .p8
  | 0x0B => some .p9
  | 0x0C => some .h1
  | 0x0D => some .h2
  | 0x0E => some .h3
  | 0x0F => some .h4
  | 0x10 => some .h5
  | 0x11 => some .h6
  | 0x12 => some .praw
  | 0x13 => some .traw
  | 0x14 => some .hraw
  | 0x15 => some .tfine
  | 0x16 => some .tcenti
  | 0x18 => some .outF
  | 0x19 => some .outHpa
  | 0x1A => some .outPct
  | 0x1E => some .status
  | 0x1F => some .cause
  | _ => none

/-- The group of a register (R20). -/
def Reg.group : Reg → RegGroup
  | .t1 | .t2 | .t3 | .p1 | .p2 | .p3 | .p4 | .p5 | .p6 | .p7 | .p8 | .p9 => .coef
  | .h1 | .h2 | .h3 | .h4 | .h5 | .h6 => .coef
  | .praw | .traw | .hraw => .sample
  | .tfine | .tcenti | .outF | .outHpa | .outPct => .result
  | .status | .cause => .control

/-- `valid(r)`: the flag of the register's group; STATUS and CAUSE are always valid (R27). -/
def State.groupValid (s : State) : RegGroup → Bool
  | .coef => s.calValid
  | .sample => s.smpValid
  | .result => s.outValid
  | .control => true

/-- `image(r)`: an unsigned register zero-extended to 64 bits, a signed one sign-extended, an `f64` as its pattern
(R232; the types are R20's). -/
def State.image (s : State) : Reg → BitVec 64
  | .t1 => s.coef.t.t1.setWidth 64
  | .t2 => s.coef.t.t2.signExtend 64
  | .t3 => s.coef.t.t3.signExtend 64
  | .p1 => s.coef.p.p1.setWidth 64
  | .p2 => s.coef.p.p2.signExtend 64
  | .p3 => s.coef.p.p3.signExtend 64
  | .p4 => s.coef.p.p4.signExtend 64
  | .p5 => s.coef.p.p5.signExtend 64
  | .p6 => s.coef.p.p6.signExtend 64
  | .p7 => s.coef.p.p7.signExtend 64
  | .p8 => s.coef.p.p8.signExtend 64
  | .p9 => s.coef.p.p9.signExtend 64
  | .h1 => s.coef.h.h1.setWidth 64
  | .h2 => s.coef.h.h2.signExtend 64
  | .h3 => s.coef.h.h3.setWidth 64
  | .h4 => s.coef.h.h4.signExtend 64
  | .h5 => s.coef.h.h5.signExtend 64
  | .h6 => s.coef.h.h6.signExtend 64
  | .praw => s.sample.praw.setWidth 64
  | .traw => s.sample.traw.setWidth 64
  | .hraw => s.sample.hraw.setWidth 64
  | .tfine => s.results.tfine
  | .tcenti => s.results.tcenti
  | .outF => s.results.outF
  | .outHpa => s.results.outHpa
  | .outPct => s.results.outPct
  | .status => s.statusRead.setWidth 64
  | .cause => s.cause.setWidth 64

end Sys2Proof.Machine
end

