-- ==== Sys2Proof/Machine/Calibration.lean ====
section
/-! DEFINITION. The calibration decoder (spec/41_calibration_decoder.md): the value of each of the 18 fields, the
function `decode_calibration` (R143), and the meanings of the DEC micro-operations. A micro-operation writes its one
register and nothing else: it sets no flag and gives no response (log entry 7). -/

namespace Sys2Proof.Machine

/-! ### The fields -/

/-- The value of T1 (R120). -/
def fieldT1 (b : Block) : Except Cause Int := unsigned16 b 0

/-- The value of T2 (R121). -/
def fieldT2 (b : Block) : Except Cause Int := signed16 b 2

/-- The value of T3 (R122). -/
def fieldT3 (b : Block) : Except Cause Int := signed16 b 4

/-- The value of P1 (R123). -/
def fieldP1 (b : Block) : Except Cause Int := unsigned16 b 6

/-- The value of P2 (R124). -/
def fieldP2 (b : Block) : Except Cause Int := signed16 b 8

/-- The value of P3 (R125). -/
def fieldP3 (b : Block) : Except Cause Int := signed16 b 10

/-- The value of P4 (R126). -/
def fieldP4 (b : Block) : Except Cause Int := signed16 b 12

/-- The value of P5 (R127). -/
def fieldP5 (b : Block) : Except Cause Int := signed16 b 14

/-- The value of P6 (R128). -/
def fieldP6 (b : Block) : Except Cause Int := signed16 b 16

/-- The value of P7 (R129). -/
def fieldP7 (b : Block) : Except Cause Int := signed16 b 18

/-- The value of P8 (R130). -/
def fieldP8 (b : Block) : Except Cause Int := signed16 b 20

/-- The value of P9 (R131). -/
def fieldP9 (b : Block) : Except Cause Int := signed16 b 22

/-- The value of H1 (R132). -/
def fieldH1 (b : Block) : Except Cause Int := unsigned8 b 0

/-- The value of H2 (R133). -/
def fieldH2 (b : Block) : Except Cause Int := signed16 b 0

/-- The value of H3 (R134). -/
def fieldH3 (b : Block) : Except Cause Int := unsigned8 b 2

/-- The value of H6 (R135). -/
def fieldH6 (b : Block) : Except Cause Int := signed8 b 6

/-- The value of H4 (R138): the shift sequence on byte 3, the low nibble of byte 4 OR-ed in. -/
def fieldH4 (b : Block) : Except Cause Int :=
  match signed8 b 3, signed8 b 4 with
  | .ok s, .ok n => .ok (sext12 (hi8To12 s ||| lowNibble n).toInt)
  | .error k, _ => .error k
  | .ok _, .error k => .error k

/-- The value of H5 (R139): the shift sequence on byte 5, the high nibble of the unsigned byte 4 OR-ed in. -/
def fieldH5 (b : Block) : Except Cause Int :=
  match signed8 b 5, unsigned8 b 4 with
  | .ok s, .ok n => .ok (sext12 (hi8To12 s ||| highNibble n).toInt)
  | .error k, _ => .error k
  | .ok _, .error k => .error k

/-- A register of `n` bits takes a value. -/
def toReg (n : Nat) (v : Except Cause Int) : Except Cause (BitVec n) := v.map (BitVec.ofInt n)

/-! ### The function -/

/-- The temperature coefficients of CAL1. -/
def decodeTCal (b24 : Block) : Except Cause TCal := do
  return {
    t1 := ← toReg 16 (fieldT1 b24)
    t2 := ← toReg 16 (fieldT2 b24)
    t3 := ← toReg 16 (fieldT3 b24) }

/-- The pressure coefficients of CAL1. -/
def decodePCal (b24 : Block) : Except Cause PCal := do
  return {
    p1 := ← toReg 16 (fieldP1 b24)
    p2 := ← toReg 16 (fieldP2 b24)
    p3 := ← toReg 16 (fieldP3 b24)
    p4 := ← toReg 16 (fieldP4 b24)
    p5 := ← toReg 16 (fieldP5 b24)
    p6 := ← toReg 16 (fieldP6 b24)
    p7 := ← toReg 16 (fieldP7 b24)
    p8 := ← toReg 16 (fieldP8 b24)
    p9 := ← toReg 16 (fieldP9 b24) }

/-- The humidity coefficients of CAL2 and CAL3. -/
def decodeHCal (b1 b7 : Block) : Except Cause HCal := do
  return {
    h1 := ← toReg 8 (fieldH1 b1)
    h2 := ← toReg 16 (fieldH2 b7)
    h3 := ← toReg 8 (fieldH3 b7)
    h4 := ← toReg 12 (fieldH4 b7)
    h5 := ← toReg 12 (fieldH5 b7)
    h6 := ← toReg 8 (fieldH6 b7) }

/-- The precondition of `decode_calibration`: exactly 24, 1 and 7 bytes (R143, R224, R241). -/
def calLengthsOk (b24 b1 b7 : Block) : Bool :=
  b24.length == Config.lenCal1 && b1.length == Config.lenCal2 && b7.length == Config.lenCal3

/-- The 18 coefficients of three blocks (R143). -/
def calFields (b24 b1 b7 : Block) : Except Cause Coef := do
  return { t := ← decodeTCal b24, p := ← decodePCal b24, h := ← decodeHCal b1 b7 }

/-- `decode_calibration(b24, b1, b7)` (R143). Outside its precondition, on a block too short or too long, it has no value:
`BlockLength`. -/
def decodeCalibration (b24 b1 b7 : Block) : Except Cause Coef :=
  if calLengthsOk b24 b1 b7 then calFields b24 b1 b7 else .error .blockLength

/-! ### The micro-operations -/

/-- Writes the T part of COEF. -/
def State.setT (s : State) (t : TCal) : State := s.setCoef { s.coef with t := t }

/-- Writes the P part of COEF. -/
def State.setP (s : State) (p : PCal) : State := s.setCoef { s.coef with p := p }

/-- Writes the H part of COEF. -/
def State.setH (s : State) (h : HCal) : State := s.setCoef { s.coef with h := h }

/-- `DEC.T1` (R120). -/
def execDecT1 (b : Block) (s : State) : StepResult :=
  latch (toReg 16 (fieldT1 b)) s fun v => s.setT { s.coef.t with t1 := v }

/-- `DEC.T2` (R121). -/
def execDecT2 (b : Block) (s : State) : StepResult :=
  latch (toReg 16 (fieldT2 b)) s fun v => s.setT { s.coef.t with t2 := v }

/-- `DEC.T3` (R122). -/
def execDecT3 (b : Block) (s : State) : StepResult :=
  latch (toReg 16 (fieldT3 b)) s fun v => s.setT { s.coef.t with t3 := v }

/-- `DEC.P1` (R123). -/
def execDecP1 (b : Block) (s : State) : StepResult :=
  latch (toReg 16 (fieldP1 b)) s fun v => s.setP { s.coef.p with p1 := v }

/-- `DEC.P2` (R124). -/
def execDecP2 (b : Block) (s : State) : StepResult :=
  latch (toReg 16 (fieldP2 b)) s fun v => s.setP { s.coef.p with p2 := v }

/-- `DEC.P3` (R125). -/
def execDecP3 (b : Block) (s : State) : StepResult :=
  latch (toReg 16 (fieldP3 b)) s fun v => s.setP { s.coef.p with p3 := v }

/-- `DEC.P4` (R126). -/
def execDecP4 (b : Block) (s : State) : StepResult :=
  latch (toReg 16 (fieldP4 b)) s fun v => s.setP { s.coef.p with p4 := v }

/-- `DEC.P5` (R127). -/
def execDecP5 (b : Block) (s : State) : StepResult :=
  latch (toReg 16 (fieldP5 b)) s fun v => s.setP { s.coef.p with p5 := v }

/-- `DEC.P6` (R128). -/
def execDecP6 (b : Block) (s : State) : StepResult :=
  latch (toReg 16 (fieldP6 b)) s fun v => s.setP { s.coef.p with p6 := v }

/-- `DEC.P7` (R129). -/
def execDecP7 (b : Block) (s : State) : StepResult :=
  latch (toReg 16 (fieldP7 b)) s fun v => s.setP { s.coef.p with p7 := v }

/-- `DEC.P8` (R130). -/
def execDecP8 (b : Block) (s : State) : StepResult :=
  latch (toReg 16 (fieldP8 b)) s fun v => s.setP { s.coef.p with p8 := v }

/-- `DEC.P9` (R131). -/
def execDecP9 (b : Block) (s : State) : StepResult :=
  latch (toReg 16 (fieldP9 b)) s fun v => s.setP { s.coef.p with p9 := v }

/-- `DEC.H1` (R132). -/
def execDecH1 (b : Block) (s : State) : StepResult :=
  latch (toReg 8 (fieldH1 b)) s fun v => s.setH { s.coef.h with h1 := v }

/-- `DEC.H2` (R133). -/
def execDecH2 (b : Block) (s : State) : StepResult :=
  latch (toReg 16 (fieldH2 b)) s fun v => s.setH { s.coef.h with h2 := v }

/-- `DEC.H3` (R134). -/
def execDecH3 (b : Block) (s : State) : StepResult :=
  latch (toReg 8 (fieldH3 b)) s fun v => s.setH { s.coef.h with h3 := v }

/-- `DEC.H4` (R138). -/
def execDecH4 (b : Block) (s : State) : StepResult :=
  latch (toReg 12 (fieldH4 b)) s fun v => s.setH { s.coef.h with h4 := v }

/-- `DEC.H5` (R139). -/
def execDecH5 (b : Block) (s : State) : StepResult :=
  latch (toReg 12 (fieldH5 b)) s fun v => s.setH { s.coef.h with h5 := v }

/-- `DEC.H6` (R135). -/
def execDecH6 (b : Block) (s : State) : StepResult :=
  latch (toReg 8 (fieldH6 b)) s fun v => s.setH { s.coef.h with h6 := v }

end Sys2Proof.Machine
end

