-- ==== Sys2Proof/Machine/Binary64.lean ====
section
/-! DEFINITION. IEEE 754 binary64 under round to nearest, ties to even (spec/40_primitives.md R116 to R118): the
default of the numerics record NUM. Every finite value is an integer multiple of 2^-1074, and an operation computes the
exact result as a ratio of two natural numbers and rounds it once. -/

namespace Sys2Proof.Machine.Binary64

/-- The sign bit. -/
def sign (x : F64) : Bool := x.msb

/-- The biased exponent, bits 62:52. -/
def expField (x : F64) : Nat := x.toNat / 2 ^ 52 % 2 ^ 11

/-- The trailing significand, bits 51:0. -/
def fracField (x : F64) : Nat := x.toNat % 2 ^ 52

def isNaN (x : F64) : Bool := expField x == 2047 && fracField x != 0

def isInf (x : F64) : Bool := expField x == 2047 && fracField x == 0

def isFinite (x : F64) : Bool := expField x != 2047

/-- The magnitude of a finite value in units of 2^-1074. (For an infinity it is 2^2098, above every finite one, so that
comparisons need no case of their own.) -/
def magnitude (x : F64) : Nat :=
  if expField x = 0 then fracField x else (2 ^ 52 + fracField x) * 2 ^ (expField x - 1)

/-- The value of a finite `x` in units of 2^-1074. -/
def scaled (x : F64) : Int := if sign x then -(magnitude x : Int) else (magnitude x : Int)

/-- The pattern of a sign and of the 63 bits below it. -/
def withSign (neg : Bool) (mag : Nat) : F64 := BitVec.ofNat 64 (if neg then 2 ^ 63 + mag else mag)

/-- The 63 low bits of an infinity. -/
def infBits : Nat := 0x7FF0000000000000

/-- The exponent of the leading bit: the `e` with `2^e ≤ num/den < 2^(e+1)`, for positive `num` and `den`. -/
def leadExponent (num den : Nat) : Int :=
  let d : Int := (num.log2 : Int) - (den.log2 : Int)
  if den * 2 ^ d.toNat ≤ num * 2 ^ (-d).toNat then d else d - 1

/-- The exponent of the unit in the last place of a result of leading exponent `e`: 52 below it, and not below that of
the subnormals. -/
def ulpExponent (e : Int) : Int := max (e - 52) (-1074)

/-- The integer nearest to `n/d`; of two equally near ones the even one. -/
def nearestEven (n d : Nat) : Nat :=
  if d < 2 * (n % d) ∨ (2 * (n % d) = d ∧ n / d % 2 = 1) then n / d + 1 else n / d

/-- The binary64 value nearest to `num/den`, ties to even, with the sign `neg`; an infinity where the rounded magnitude
is beyond the largest finite one. The sum of the exponent and significand fields carries a significand that rounds up to
2^53 into the next exponent. -/
def roundRatio (neg : Bool) (num den : Nat) : F64 :=
  if num = 0 then withSign neg 0 else
    let q := ulpExponent (leadExponent num den)
    let k := nearestEven (num * 2 ^ (-q).toNat) (den * 2 ^ q.toNat)
    withSign neg (min ((q + 1074).toNat * 2 ^ 52 + k) infBits)

/-- Makes a pattern a NaN: the sign and the payload are those of the free value, unless its payload is zero, which
would be an infinity. -/
def toNaN (x : F64) : F64 :=
  withSign (sign x) (infBits + if fracField x = 0 then 2 ^ 51 else fracField x)

/-- The NaN that an operation yields on two operands: which NaN is free (log entry 10). -/
def resultNaN (op : FloatOp) (a b : F64) : F64 := toNaN (Config.freeNaN op a b)

/-- The sum of two values that are no NaN, the result NaN given for infinities of opposite sign. An exact sum of zero is
-0 where both operands are negative zeros and +0 otherwise. -/
def sum (nan a b : F64) : F64 :=
  if isInf a then (if isInf b && sign a != sign b then nan else a)
  else if isInf b then b
  else if scaled a + scaled b = 0 then withSign (sign a && sign b) 0
  else roundRatio (decide (scaled a + scaled b < 0)) (scaled a + scaled b).natAbs (2 ^ 1074)

/-- `x` with the other sign. -/
def negate (x : F64) : F64 := x ^^^ 0x8000000000000000#64

/-- `+f`. -/
def add (a b : F64) : F64 :=
  if isNaN a || isNaN b then resultNaN .add a b else sum (resultNaN .add a b) a b

/-- `-f`. -/
def sub (a b : F64) : F64 :=
  if isNaN a || isNaN b then resultNaN .sub a b else sum (resultNaN .sub a b) a (negate b)

/-- `*f`. -/
def mul (a b : F64) : F64 :=
  if isNaN a || isNaN b then resultNaN .mul a b
  else if isInf a || isInf b then
    if magnitude a = 0 ∨ magnitude b = 0 then resultNaN .mul a b else withSign (sign a != sign b) infBits
  else roundRatio (sign a != sign b) (magnitude a * magnitude b) (2 ^ 2148)

/-- `/f`. -/
def div (a b : F64) : F64 :=
  if isNaN a || isNaN b then resultNaN .div a b
  else if isInf a then (if isInf b then resultNaN .div a b else withSign (sign a != sign b) infBits)
  else if isInf b then withSign (sign a != sign b) 0
  else if magnitude b = 0 then
    if magnitude a = 0 then resultNaN .div a b else withSign (sign a != sign b) infBits
  else roundRatio (sign a != sign b) (magnitude a) (magnitude b)

/-- `==f` (R118): false on a NaN; the two zeros are equal. -/
def eq (a b : F64) : Bool := !isNaN a && !isNaN b && scaled a == scaled b

/-- `<f` (R118): false on a NaN. -/
def lt (a b : F64) : Bool := !isNaN a && !isNaN b && decide (scaled a < scaled b)

/-- `>f` (R118): false on a NaN. -/
def gt (a b : F64) : Bool := !isNaN a && !isNaN b && decide (scaled b < scaled a)

/-- `f64(i)`: exact up to 2^53 (R11, R117); beyond, the spec states no value (log entry 11). -/
def ofInt (i : Int) : F64 :=
  if i.natAbs ≤ 2 ^ 53 then roundRatio (decide (i < 0)) i.natAbs 1 else Config.freeOfInt i

end Sys2Proof.Machine.Binary64
end

