-- ==== Sys2Proof/Machine/Numerics.lean ====
section
/-! DEFINITION. The numerics record NUM (spec/40_primitives.md R119): the operations, the conversion and the comparisons
that the floating-point stages are written in, and its default, binary64 (R116; log entry 9). -/

namespace Sys2Proof.Machine

/-- NUM (R119): `f64(.)`, `+f`, `-f`, `*f`, `/f`, `==f`, `<f`, `>f`. -/
structure Numerics where
  ofInt : Int → F64
  add : F64 → F64 → F64
  sub : F64 → F64 → F64
  mul : F64 → F64 → F64
  div : F64 → F64 → F64
  eq : F64 → F64 → Bool
  lt : F64 → F64 → Bool
  gt : F64 → F64 → Bool

/-- The default NUM: binary64, round to nearest even (R116; log entry 9). -/
def binary64 : Numerics where
  ofInt := Binary64.ofInt
  add := Binary64.add
  sub := Binary64.sub
  mul := Binary64.mul
  div := Binary64.div
  eq := Binary64.eq
  lt := Binary64.lt
  gt := Binary64.gt

/-- A literal: every one of the spec's is an integer written with `.0`, exactly representable (R11; log entry 26). -/
def Numerics.lit (N : Numerics) (n : Nat) : F64 := N.ofInt n

end Sys2Proof.Machine
end

