-- ==== Sys2Proof/Machine/Humidity.lean ====
section
/-! DEFINITION. The engine's Step 3 (humidity), spec/45_humidity.md: each stage as a function of its operands, the
configuration function HUM_FN and its default (R200; log entry 13), the function `humidity` (R209) with the clamp that
holds for every HUM_FN (R208), and the meanings of the H stages. -/

namespace Sys2Proof.Machine

/-! ### The stages -/

/-- `H.G` (R201). -/
def stageG (N : Numerics) (tfine : I64) : F64 := N.sub (N.ofInt tfine.toInt) (N.lit 76800)

/-- `H.A` (R202). -/
def stageHA (N : Numerics) (hraw : BitVec 16) (h4 h5 : BitVec 12) (g : F64) : F64 :=
  N.sub (N.ofInt hraw.toNat)
    (N.add (N.mul (N.ofInt h4.toInt) (N.lit 64)) (N.mul (N.div (N.ofInt h5.toInt) (N.lit 16384)) g))

/-- `H.B` (R203). H3 is unsigned. -/
def stageHB (N : Numerics) (h3 : BitVec 8) (g : F64) : F64 :=
  N.add (N.lit 1) (N.mul (N.div (N.ofInt h3.toNat) (N.lit 67108864)) g)

/-- `H.C` (R204): `((H6 / 2^26) * g) * hB`, left to right. -/
def stageHC (N : Numerics) (h6 : BitVec 8) (g hB : F64) : F64 :=
  N.add (N.lit 1) (N.mul (N.mul (N.div (N.ofInt h6.toInt) (N.lit 67108864)) g) hB)

/-- `H.D` (R205). -/
def stageHD (N : Numerics) (h2 : BitVec 16) (hC : F64) : F64 := N.mul (N.div (N.ofInt h2.toInt) (N.lit 65536)) hC

/-- `H.E` (R206). -/
def stageHE (N : Numerics) (hA hD : F64) : F64 := N.mul hA hD

/-- `H.F` (R207): the unclamped humidity. H1 is unsigned. -/
def stageHF (N : Numerics) (hE : F64) (h1 : BitVec 8) : F64 :=
  N.mul hE (N.sub (N.lit 1) (N.div (N.mul (N.ofInt h1.toNat) hE) (N.lit 524288)))

/-- `H.CLAMP` (R208). -/
def stageClamp (N : Numerics) (hF : F64) : F64 :=
  if N.gt hF (N.lit 100) then N.lit 100 else if N.lt hF (N.lit 0) then N.lit 0 else hF

/-! ### HUM_FN and the function -/

/-- HUM_FN (R200): from TFINE, H1 to H6 and HRAW, the unclamped value. -/
structure HumFn where
  unclamped : I64 → HCal → BitVec 16 → F64

/-- The default unclamped value (R201 to R207). -/
def defaultUnclamped (N : Numerics) (tfine : I64) (c : HCal) (hraw : BitVec 16) : F64 :=
  let g := stageG N tfine
  let hA := stageHA N hraw c.h4 c.h5 g
  let hD := stageHD N c.h2 (stageHC N c.h6 g (stageHB N c.h3 g))
  stageHF N (stageHE N hA hD) c.h1

/-- The default HUM_FN (R200; log entry 13). -/
def defaultHum (N : Numerics) : HumFn := { unclamped := defaultUnclamped N }

/-- `humidity(TFINE, H1 .. H6, HRAW) = OUT_PCT` (R209), for any NUM and HUM_FN. -/
def humidity (N : Numerics) (F : HumFn) (tfine : I64) (c : HCal) (hraw : BitVec 16) : F64 :=
  stageClamp N (F.unclamped tfine c hraw)

/-! ### The stages run one by one (log entries 5 to 7) -/

/-- `H.G` (R201). -/
def execHG (s : State) : StepResult :=
  .next (s.setScratch { s.scratch with g := stageG binary64 s.results.tfine })

/-- `H.A` (R202). -/
def execHA (s : State) : StepResult :=
  .next (s.setScratch
    { s.scratch with hA := stageHA binary64 s.sample.hraw s.coef.h.h4 s.coef.h.h5 s.scratch.g })

/-- `H.B` (R203). -/
def execHB (s : State) : StepResult :=
  .next (s.setScratch { s.scratch with hB := stageHB binary64 s.coef.h.h3 s.scratch.g })

/-- `H.C` (R204). -/
def execHC (s : State) : StepResult :=
  .next (s.setScratch { s.scratch with hC := stageHC binary64 s.coef.h.h6 s.scratch.g s.scratch.hB })

/-- `H.D` (R205). -/
def execHD (s : State) : StepResult :=
  .next (s.setScratch { s.scratch with hD := stageHD binary64 s.coef.h.h2 s.scratch.hC })

/-- `H.E` (R206). -/
def execHE (s : State) : StepResult :=
  .next (s.setScratch { s.scratch with hE := stageHE binary64 s.scratch.hA s.scratch.hD })

/-- `H.F` (R207). -/
def execHF (s : State) : StepResult :=
  .next (s.setScratch { s.scratch with hF := stageHF binary64 s.scratch.hE s.coef.h.h1 })

/-- `H.CLAMP` (R208): writes OUT_PCT. -/
def execHClamp (s : State) : StepResult :=
  .next (s.setResults { s.results with outPct := stageClamp binary64 s.scratch.hF })

end Sys2Proof.Machine
end

