-- ==== Sys2Proof/Machine/Pressure.lean ====
section
/-! DEFINITION. The engine's Step 2 (pressure), spec/44_pressure.md: each stage as a function of its operands, the
configuration function PRESS_FN and its default (R180; log entry 12), the function `pressure` (R193) with the guard and
the division by 100 that hold for every PRESS_FN (R187, R192), and the meanings of the P stages. -/

namespace Sys2Proof.Machine

/-! ### The stages -/

/-- `P.A1` (R181). -/
def stageA1 (N : Numerics) (tfine : I64) : F64 := N.sub (N.div (N.ofInt tfine.toInt) (N.lit 2)) (N.lit 64000)

/-- `P.B1` (R182). -/
def stageB1 (N : Numerics) (a1 : F64) (p6 : BitVec 16) : F64 :=
  N.div (N.mul (N.mul a1 a1) (N.ofInt p6.toInt)) (N.lit 32768)

/-- `P.B2` (R183). -/
def stageB2 (N : Numerics) (b1 a1 : F64) (p5 : BitVec 16) : F64 :=
  N.add b1 (N.mul (N.mul a1 (N.ofInt p5.toInt)) (N.lit 2))

/-- `P.B3` (R184). -/
def stageB3 (N : Numerics) (b2 : F64) (p4 : BitVec 16) : F64 :=
  N.add (N.div b2 (N.lit 4)) (N.mul (N.ofInt p4.toInt) (N.lit 65536))

/-- `P.A2` (R185): `(P3 * a1) * a1`, left to right. -/
def stageA2 (N : Numerics) (a1 : F64) (p3 p2 : BitVec 16) : F64 :=
  N.div (N.add (N.div (N.mul (N.mul (N.ofInt p3.toInt) a1) a1) (N.lit 524288)) (N.mul (N.ofInt p2.toInt) a1))
    (N.lit 524288)

/-- `P.DEN` (R186): WS's "intermediate denominator term". P1 is unsigned. -/
def stageDen (N : Numerics) (a2 : F64) (p1 : BitVec 16) : F64 :=
  N.mul (N.add (N.lit 1) (N.div a2 (N.lit 32768))) (N.ofInt p1.toNat)

/-- `P.GUARD` (R187): the denominator equals zero, by IEEE equality. -/
def guardFires (N : Numerics) (a3 : F64) : Bool := N.eq a3 (N.lit 0)

/-- `P.Q1` (R188). -/
def stageQ1 (N : Numerics) (praw : BitVec 20) (b3 a3 : F64) : F64 :=
  N.div (N.mul (N.sub (N.sub (N.lit 1048576) (N.ofInt praw.toNat)) (N.div b3 (N.lit 4096))) (N.lit 6250)) a3

/-- `P.C1` (R189): `(P9 * q1) * q1`, left to right. -/
def stageC1 (N : Numerics) (q1 : F64) (p9 : BitVec 16) : F64 :=
  N.div (N.mul (N.mul (N.ofInt p9.toInt) q1) q1) (N.lit 2147483648)

/-- `P.C2` (R190). -/
def stageC2 (N : Numerics) (q1 : F64) (p8 : BitVec 16) : F64 := N.div (N.mul q1 (N.ofInt p8.toInt)) (N.lit 32768)

/-- `P.PA` (R191): the pressure in pascal. -/
def stagePa (N : Numerics) (q1 c1 c2 : F64) (p7 : BitVec 16) : F64 :=
  N.add q1 (N.div (N.add (N.add c1 c2) (N.ofInt p7.toInt)) (N.lit 16))

/-- `P.HPA` (R192). -/
def stageHpa (N : Numerics) (ppa : F64) : F64 := N.div ppa (N.lit 100)

/-! ### PRESS_FN and the function -/

/-- PRESS_FN (R180): from TFINE, P1 to P9 and PRAW, the denominator term that the guard tests and the pascal value
where the guard does not fire. -/
structure PressFn where
  den : I64 → PCal → BitVec 20 → F64
  pa : I64 → PCal → BitVec 20 → F64

/-- The default denominator (R181, R185, R186). -/
def defaultDen (N : Numerics) (tfine : I64) (c : PCal) (_praw : BitVec 20) : F64 :=
  stageDen N (stageA2 N (stageA1 N tfine) c.p3 c.p2) c.p1

/-- The default pascal value (R181 to R186, R188 to R191). -/
def defaultPa (N : Numerics) (tfine : I64) (c : PCal) (praw : BitVec 20) : F64 :=
  let a1 := stageA1 N tfine
  let b3 := stageB3 N (stageB2 N (stageB1 N a1 c.p6) a1 c.p5) c.p4
  let q1 := stageQ1 N praw b3 (defaultDen N tfine c praw)
  stagePa N q1 (stageC1 N q1 c.p9) (stageC2 N q1 c.p8) c.p7

/-- The default PRESS_FN (R180; log entry 12). -/
def defaultPress (N : Numerics) : PressFn := { den := defaultDen N, pa := defaultPa N }

/-- The pascal value after the guard (R187). -/
def guardedPa (N : Numerics) (F : PressFn) (tfine : I64) (c : PCal) (praw : BitVec 20) : F64 :=
  if guardFires N (F.den tfine c praw) then N.lit 0 else F.pa tfine c praw

/-- `pressure(TFINE, P1 .. P9, PRAW) = OUT_HPA` (R193), for any NUM and PRESS_FN. -/
def pressure (N : Numerics) (F : PressFn) (tfine : I64) (c : PCal) (praw : BitVec 20) : F64 :=
  stageHpa N (guardedPa N F tfine c praw)

/-! ### The stages run one by one (log entries 5 to 8) -/

/-- `P.A1` (R181). -/
def execPA1 (s : State) : StepResult :=
  .next (s.setScratch { s.scratch with a1 := stageA1 binary64 s.results.tfine })

/-- `P.B1` (R182). -/
def execPB1 (s : State) : StepResult :=
  .next (s.setScratch { s.scratch with b1 := stageB1 binary64 s.scratch.a1 s.coef.p.p6 })

/-- `P.B2` (R183). -/
def execPB2 (s : State) : StepResult :=
  .next (s.setScratch { s.scratch with b2 := stageB2 binary64 s.scratch.b1 s.scratch.a1 s.coef.p.p5 })

/-- `P.B3` (R184). -/
def execPB3 (s : State) : StepResult :=
  .next (s.setScratch { s.scratch with b3 := stageB3 binary64 s.scratch.b2 s.coef.p.p4 })

/-- `P.A2` (R185). -/
def execPA2 (s : State) : StepResult :=
  .next (s.setScratch { s.scratch with a2 := stageA2 binary64 s.scratch.a1 s.coef.p.p3 s.coef.p.p2 })

/-- `P.DEN` (R186). -/
def execPDen (s : State) : StepResult :=
  .next (s.setScratch { s.scratch with a3 := stageDen binary64 s.scratch.a2 s.coef.p.p1 })

/-- `P.GUARD` (R187): where the denominator is zero, `ppa` is +0.0 and the stages 0x37 to 0x3A are skipped. -/
def execPGuard (s : State) : StepResult :=
  .next (s.setScratch (if guardFires binary64 s.scratch.a3
    then { s.scratch with guardFired := true, ppa := binary64.lit 0 }
    else { s.scratch with guardFired := false }))

/-- The stages 0x37 to 0x3A are skipped after a fired guard (R187; log entry 8). -/
def unlessSkipped (s : State) (write : State) : StepResult := .next (if s.scratch.guardFired then s else write)

/-- `P.Q1` (R188). -/
def execPQ1 (s : State) : StepResult :=
  unlessSkipped s (s.setScratch { s.scratch with q1 := stageQ1 binary64 s.sample.praw s.scratch.b3 s.scratch.a3 })

/-- `P.C1` (R189). -/
def execPC1 (s : State) : StepResult :=
  unlessSkipped s (s.setScratch { s.scratch with c1 := stageC1 binary64 s.scratch.q1 s.coef.p.p9 })

/-- `P.C2` (R190). -/
def execPC2 (s : State) : StepResult :=
  unlessSkipped s (s.setScratch { s.scratch with c2 := stageC2 binary64 s.scratch.q1 s.coef.p.p8 })

/-- `P.PA` (R191). -/
def execPPa (s : State) : StepResult :=
  unlessSkipped s
    (s.setScratch { s.scratch with ppa := stagePa binary64 s.scratch.q1 s.scratch.c1 s.scratch.c2 s.coef.p.p7 })

/-- `P.HPA` (R192): writes OUT_HPA. -/
def execPHpa (s : State) : StepResult :=
  .next (s.setResults { s.results with outHpa := stageHpa binary64 s.scratch.ppa })

end Sys2Proof.Machine
end

