-- ==== Sys2Proof/Machine/Sampling.lean ====
section
/-! DEFINITION. The raw sample (spec/42_sample_unpack.md): the fields of MEAS, the function `unpack_sample` (R153), the
meanings of the UNP micro-operations and of LDSAMPLE and UNPACK. The layout of MEAS is log entry 14. -/

namespace Sys2Proof.Machine

/-! ### The fields -/

/-- A 20-bit field from its three bytes: the upper 20 bits of the 24-bit big-endian value (R77). -/
def pack20 (m l x : Byte) : BitVec 20 := m.setWidth 20 <<< 12 ||| l.setWidth 20 <<< 4 ||| (x >>> 4).setWidth 20

/-- The 20-bit field whose first byte stands at index `i` (R77). -/
def field20 (b : Block) (i : Nat) : Except Cause (BitVec 20) :=
  match memRead2 b i, memRead1 b (i + 2) with
  | .ok (m, l), .ok x => .ok (pack20 m l x)
  | .error k, _ => .error k
  | .ok _, .error k => .error k

/-- The value of PRAW (R150). -/
def fieldPraw (m : Block) : Except Cause (BitVec 20) := field20 m 0

/-- The value of TRAW (R151). -/
def fieldTraw (m : Block) : Except Cause (BitVec 20) := field20 m 3

/-- The value of HRAW (R152): big-endian. -/
def fieldHraw (m : Block) : Except Cause (BitVec 16) :=
  (memRead2 m 6).map fun (hi, lo) => hi.setWidth 16 <<< 8 ||| lo.setWidth 16

/-- The three fields of a measurement block (R153). -/
def measFields (m : Block) : Except Cause Sample := do
  return { praw := ← fieldPraw m, traw := ← fieldTraw m, hraw := ← fieldHraw m }

/-- `unpack_sample(m)` (R153). Outside its precondition, a block of exactly 8 bytes, it has no value: `BlockLength`. -/
def unpackSample (m : Block) : Except Cause Sample :=
  if m.length == Config.lenMeas then measFields m else .error .blockLength

/-! ### The micro-operations (log entry 7) -/

/-- `UNP.P` (R150). -/
def execUnpP (m : Block) (s : State) : StepResult :=
  latch (fieldPraw m) s fun v => s.setSample { s.sample with praw := v }

/-- `UNP.T` (R151). -/
def execUnpT (m : Block) (s : State) : StepResult :=
  latch (fieldTraw m) s fun v => s.setSample { s.sample with traw := v }

/-- `UNP.H` (R152). -/
def execUnpH (m : Block) (s : State) : StepResult :=
  latch (fieldHraw m) s fun v => s.setSample { s.sample with hraw := v }

/-! ### The commands -/

/-- Loads a raw sample: the three registers together, and `SMP_VALID` (R24, R154, R155). -/
def State.loadSample (s : State) (x : Sample) : State := (s.setSample x).setStatus (setFlags s.status smpMask)

/-- A word of LDSAMPLE is outside its width: 20, 20 and 16 bits (R154, R156, R242). -/
def sampleTooWide (p t h : BitVec 32) : Bool := p.toNat ≥ 2 ^ 20 || t.toNat ≥ 2 ^ 20 || h.toNat ≥ 2 ^ 16

/-- `LDSAMPLE p, t, h` (R154). -/
def execLdsample (p t h : BitVec 32) (s : State) : StepResult :=
  unlessFaulted s <|
    if sampleTooWide p t h then .next (s.raise .sampleWidth)
    else succeed .none (s.loadSample { praw := p.setWidth 20, traw := t.setWidth 20, hraw := h.setWidth 16 })

/-- `UNPACK m` (R155): `unpackSample` checks the length before it reads a byte. -/
def execUnpack (m : Block) (s : State) : StepResult :=
  unlessFaulted s <|
    match unpackSample m with
    | .ok x => succeed .none (s.loadSample x)
    | .error k => .next (s.raise k)

end Sys2Proof.Machine
end

