-- ==== Sys2Proof/Machine/Temperature.lean ====
section
/-! DEFINITION. The engine's Step 1 (temperature, `t_fine`) and Step 4 (Fahrenheit), spec/43_temperature.md: each stage
as a function of its operands, the function `temperature` (R167), and the meanings of the T stages. The integer path is
`i64` (R110; log entry 15). -/

namespace Sys2Proof.Machine

/-! ### The stages -/

/-- `T.VAR1` (R160). -/
def stageVar1 (traw : BitVec 20) (t1 t2 : BitVec 16) : I64 :=
  let x1 : I64 := asr (traw.setWidth 64) 3
  let x2 : I64 := t1.setWidth 64 <<< 1
  let x3 : I64 := x1 - x2
  let x4 : I64 := x3 * t2.signExtend 64
  asr x4 11

/-- `T.VAR2` (R161). -/
def stageVar2 (traw : BitVec 20) (t1 t3 : BitVec 16) : I64 :=
  let y1 : I64 := asr (traw.setWidth 64) 4
  let y2 : I64 := y1 - t1.setWidth 64
  let y3 : I64 := y2 * y2
  let y4 : I64 := asr y3 12
  let y5 : I64 := y4 * t3.signExtend 64
  asr y5 14

/-- `T.FINE` (R163). -/
def stageFine (tv1 tv2 : I64) : I64 := tv1 + tv2

/-- `T.CENTI` (R164). -/
def stageCenti (tfine : I64) : I64 := asr (tfine * 5#64 + 128#64) 8

/-- `T.FAHR` (R166): four roundings, left to right. -/
def stageFahr (N : Numerics) (tcenti : I64) : F64 :=
  N.add (N.div (N.mul (N.div (N.ofInt tcenti.toInt) (N.lit 100)) (N.lit 9)) (N.lit 5)) (N.lit 32)

/-! ### The function -/

/-- TFINE of a record and a raw temperature (R160, R161, R163). -/
def tfineOf (c : TCal) (traw : BitVec 20) : I64 := stageFine (stageVar1 traw c.t1 c.t2) (stageVar2 traw c.t1 c.t3)

/-- `temperature(T1, T2, T3, TRAW) = (TFINE, TCENTI, OUT_F)` (R167). -/
def temperature (N : Numerics) (c : TCal) (traw : BitVec 20) : I64 × I64 × F64 :=
  let tfine := tfineOf c traw
  let tcenti := stageCenti tfine
  (tfine, tcenti, stageFahr N tcenti)

/-! ### The stages run one by one (log entries 5 to 7) -/

/-- `T.VAR1` (R160). -/
def execTVar1 (s : State) : StepResult :=
  .next (s.setScratch { s.scratch with tv1 := stageVar1 s.sample.traw s.coef.t.t1 s.coef.t.t2 })

/-- `T.VAR2` (R161). -/
def execTVar2 (s : State) : StepResult :=
  .next (s.setScratch { s.scratch with tv2 := stageVar2 s.sample.traw s.coef.t.t1 s.coef.t.t3 })

/-- `T.FINE` (R163): writes TFINE. -/
def execTFine (s : State) : StepResult :=
  .next (s.setResults { s.results with tfine := stageFine s.scratch.tv1 s.scratch.tv2 })

/-- `T.CENTI` (R164): writes TCENTI. -/
def execTCenti (s : State) : StepResult :=
  .next (s.setResults { s.results with tcenti := stageCenti s.results.tfine })

/-- `T.FAHR` (R166): writes OUT_F. -/
def execTFahr (s : State) : StepResult :=
  .next (s.setResults { s.results with outF := stageFahr binary64 s.results.tcenti })

end Sys2Proof.Machine
end

