-- ==== Sys2Proof/Machine/Commands.lean ====
section
/-! DEFINITION. The function `compensate` (spec/46_commands.md R220), the meanings of DECODE_CAL, COMPENSATE, RESET and
RDREG (R224, R225, R231, R232), and the host's pseudo-operations (spec/30_encoding.md R88). -/

namespace Sys2Proof.Machine

/-! ### The function `compensate` -/

/-- The open parameters of the function layer: NUM, PRESS_FN, HUM_FN (R7, R119, R180, R200). -/
structure Params where
  num : Numerics
  press : PressFn
  hum : HumFn

/-- The spec's defaults, which the machine runs with (log entries 9, 12, 13). -/
def defaultParams : Params := { num := binary64, press := defaultPress binary64, hum := defaultHum binary64 }

/-- `compensate(coefficients, raw_sample)` (R220), with TFINE and TCENTI beside the triple; `t_fine` is computed once and
feeds Steps 2 and 3 (R221). -/
def compensate (P : Params) (c : Coef) (x : Sample) : Results :=
  let (tfine, tcenti, outF) := temperature P.num c.t x.traw
  { tfine := tfine, tcenti := tcenti, outF := outF,
    outHpa := pressure P.num P.press tfine c.p x.praw,
    outPct := humidity P.num P.hum tfine c.h x.hraw }

/-! ### The commands -/

/-- A new session (R23, R224): all 18 coefficients, `CAL_VALID` set, `OUT_VALID` cleared. -/
def State.startSession (s : State) (c : Coef) : State :=
  (s.setCoef c).setStatus (clearFlags (setFlags s.status calMask) outMask)

/-- `DECODE_CAL b24, b1, b7` (R224): `decodeCalibration` checks the three lengths before it reads a byte. -/
def execDecodeCal (b24 b1 b7 : Block) (s : State) : StepResult :=
  unlessFaulted s <|
    match decodeCalibration b24 b1 b7 with
    | .ok c => succeed .none (s.startSession c)
    | .error k => .next (s.raise k)

/-- The results of a COMPENSATE, and `OUT_VALID` (R225). -/
def State.storeResults (s : State) (r : Results) : State :=
  (s.setResults r).setStatus (setFlags s.status outMask)

/-- `COMPENSATE` (R225). -/
def execCompensate (s : State) : StepResult :=
  unlessFaulted s <|
    if s.calValid && s.smpValid then
      let r := compensate defaultParams s.coef s.sample
      succeed (.triple r.outF r.outHpa r.outPct) (s.storeResults r)
    else .next (s.raise .notReady)

/-- `RESET` (R231): executes in every state and never faults. -/
def execReset (s : State) : StepResult := succeed .none s.restart

/-- `RDREG idx` (R232): STATUS and CAUSE are served even in the FAULTED state. -/
def execRdreg (idx : Byte) (s : State) : StepResult :=
  match regOfIndex idx with
  | some .status => succeed (.image (s.image .status)) s
  | some .cause => succeed (.image (s.image .cause)) s
  | none => unlessFaulted s (.next (s.raise .badRegister))
  | some r =>
    unlessFaulted s <|
      if s.groupValid r.group then succeed (.image (s.image r)) s else .next (s.raise .notReady)

/-! ### Pseudo-operations of the host -/

/-- `decode_calibration(b24, b1, b7)` as commands (R88). -/
def pseudoDecodeCalibration (b24 b1 b7 : Block) : List Request := [.decodeCal b24 b1 b7]

/-- `compensate(coefficients, (p, t, h))` as commands, with the current coefficients (R88). -/
def pseudoCompensate (p t h : BitVec 32) : List Request := [.ldsample p t h, .compensate]

/-- `SAMPLE m` (R88). -/
def pseudoSample (m : Block) : List Request := [.unpack m, .compensate]

/-- `SESSION b24, b1, b7, m` (R88; R272 steps 2, 4, 5 after a reset). -/
def pseudoSession (b24 b1 b7 m : Block) : List Request :=
  [.reset, .decodeCal b24 b1 b7, .unpack m, .compensate]

end Sys2Proof.Machine
end

