-- ==== Sys2Proof/Machine/Dispatch.lean ====
section
/-! DEFINITION. One arm per instruction, each a direct call of its meaning. -/

namespace Sys2Proof.Machine

open Sys2Proof

def exec (i : Instr) (s : State) : Host.Outcome State Fault Refusal :=
  match i with
  -- the commands (46_commands.md, 42_sample_unpack.md)
  | .reset => Sys2Proof.Machine.execReset s
  | .rdreg idx => Sys2Proof.Machine.execRdreg idx s
  | .decodeCal b24 b1 b7 => Sys2Proof.Machine.execDecodeCal b24 b1 b7 s
  | .ldsample p t h => Sys2Proof.Machine.execLdsample p t h s
  | .unpack m => Sys2Proof.Machine.execUnpack m s
  | .compensate => Sys2Proof.Machine.execCompensate s
  -- the micro-operations (41_calibration_decoder.md, 42_sample_unpack.md)
  | .decT1 b => Sys2Proof.Machine.execDecT1 b s
  | .decT2 b => Sys2Proof.Machine.execDecT2 b s
  | .decT3 b => Sys2Proof.Machine.execDecT3 b s
  | .decP1 b => Sys2Proof.Machine.execDecP1 b s
  | .decP2 b => Sys2Proof.Machine.execDecP2 b s
  | .decP3 b => Sys2Proof.Machine.execDecP3 b s
  | .decP4 b => Sys2Proof.Machine.execDecP4 b s
  | .decP5 b => Sys2Proof.Machine.execDecP5 b s
  | .decP6 b => Sys2Proof.Machine.execDecP6 b s
  | .decP7 b => Sys2Proof.Machine.execDecP7 b s
  | .decP8 b => Sys2Proof.Machine.execDecP8 b s
  | .decP9 b => Sys2Proof.Machine.execDecP9 b s
  | .decH1 b => Sys2Proof.Machine.execDecH1 b s
  | .decH2 b => Sys2Proof.Machine.execDecH2 b s
  | .decH3 b => Sys2Proof.Machine.execDecH3 b s
  | .decH4 b => Sys2Proof.Machine.execDecH4 b s
  | .decH5 b => Sys2Proof.Machine.execDecH5 b s
  | .decH6 b => Sys2Proof.Machine.execDecH6 b s
  | .unpP m => Sys2Proof.Machine.execUnpP m s
  | .unpT m => Sys2Proof.Machine.execUnpT m s
  | .unpH m => Sys2Proof.Machine.execUnpH m s
  -- the stages of COMPENSATE (43_temperature.md, 44_pressure.md, 45_humidity.md)
  | .tVar1 => Sys2Proof.Machine.execTVar1 s
  | .tVar2 => Sys2Proof.Machine.execTVar2 s
  | .tFine => Sys2Proof.Machine.execTFine s
  | .tCenti => Sys2Proof.Machine.execTCenti s
  | .tFahr => Sys2Proof.Machine.execTFahr s
  | .pA1 => Sys2Proof.Machine.execPA1 s
  | .pB1 => Sys2Proof.Machine.execPB1 s
  | .pB2 => Sys2Proof.Machine.execPB2 s
  | .pB3 => Sys2Proof.Machine.execPB3 s
  | .pA2 => Sys2Proof.Machine.execPA2 s
  | .pDen => Sys2Proof.Machine.execPDen s
  | .pGuard => Sys2Proof.Machine.execPGuard s
  | .pQ1 => Sys2Proof.Machine.execPQ1 s
  | .pC1 => Sys2Proof.Machine.execPC1 s
  | .pC2 => Sys2Proof.Machine.execPC2 s
  | .pPa => Sys2Proof.Machine.execPPa s
  | .pHpa => Sys2Proof.Machine.execPHpa s
  | .hG => Sys2Proof.Machine.execHG s
  | .hA => Sys2Proof.Machine.execHA s
  | .hB => Sys2Proof.Machine.execHB s
  | .hC => Sys2Proof.Machine.execHC s
  | .hD => Sys2Proof.Machine.execHD s
  | .hE => Sys2Proof.Machine.execHE s
  | .hF => Sys2Proof.Machine.execHF s
  | .hClamp => Sys2Proof.Machine.execHClamp s

end Sys2Proof.Machine
end

