-- ==== Sys2Proof/Machine/Step.lean ====
section
/-! DEFINITION. One step of the block: the next request is fetched, decoded and executed (spec/46_commands.md R230). -/

namespace Sys2Proof.Machine

/-- Runs what a frame decodes to. -/
def runFrame (f : Frame) (s : State) : StepResult :=
  match decode f with
  | .ok i => exec i s
  | .error e => rejectFrame e s

/-- One step: a whole command of the host (R230), or, inside a command under way, its next part (log entry 5). -/
def step (s : State) : Host.Outcome State Fault Refusal :=
  match fetchMicro s with
  | some (m, s') => if s.faulted then dropMicro s else runFrame (.micro m) s'
  | none =>
    match fetch s with
    | none => idle s
    | some (r, s') => runFrame (.cmd8 r) s'

/-- `s` with a table word next to run: a command as the host's request, a stage as the next part of its command (log
entries 2, 5 and 20). -/
def State.withFetchWord (s : State) (nbits w : Nat) : State :=
  match tableFrame nbits w with
  | some (.cmd8 r) => s.present r
  | some (.micro m) => s.trace m
  | none => s

end Sys2Proof.Machine
end

