-- ==== Sys2Proof/Safety.lean ====
section
/-! DEFINITION. What a safe run is, in the terms the statements use: requests a host can present, the invariants of the
registers, what a host can see of a state, runs of several instructions, and what it means to be correctly rounded. -/

namespace Sys2Proof.Safety

open Sys2Proof Sys2Proof.Machine

/-! ### What a host presents -/

/-- A request that a host can present: a command with a payload of the shape its code fixes, or an unassigned code with
any payload (R80, R82, R84). -/
def Presentable (r : Request) : Prop := ∀ c, decodeRequest r ≠ .error (.payloadShape c)

/-- Every request is one a host can present. -/
def AllPresentable (s : State) : Prop := ∀ r ∈ s.inbox, Presentable r

/-- No command is under way, as it is after reset and after every command (R70, R230; log entry 5). -/
def BetweenCommands (s : State) : Prop := s.micro = []

/-- The six commands (R81); every other instruction is a part of one of them (R70). -/
def IsCommand (i : Instr) : Prop :=
  i = .reset ∨ (∃ idx, i = .rdreg idx) ∨ (∃ b24 b1 b7, i = .decodeCal b24 b1 b7) ∨ (∃ p t h, i = .ldsample p t h) ∨
    (∃ m, i = .unpack m) ∨ i = .compensate

/-! ### Invariants of the registers -/

/-- What STATUS and CAUSE always hold: the reserved bits are 0 (R28); CAUSE is 0 to 5, and 0 exactly where FAULTED is 0
(R29); results are valid only beside a valid record and a valid sample (R28, R225). -/
def ControlOk (s : State) : Prop :=
  s.status &&& 0x78#8 = 0 ∧ s.cause.toNat ≤ 5 ∧ (s.cause = 0 ↔ s.faulted = false) ∧
    (s.outValid = true → s.calValid = true ∧ s.smpValid = true)

/-- Where OUT_VALID is set, RESULT holds the results of a COMPENSATE on the current COEF (R28), of some sample: a newer
sample may have been loaded since (R278). -/
def ResultsCurrent (s : State) : Prop :=
  s.outValid = true → ∃ x : Sample, s.results = compensate defaultParams s.coef x

/-- Two states that no command of a host can tell apart: they agree on all but the trace scratch and the registers whose
group holds no value (R27, R270). -/
def SameVisible (s t : State) : Prop :=
  s.status = t.status ∧ s.cause = t.cause ∧ s.inbox = t.inbox ∧ s.outbox = t.outbox ∧ s.micro = t.micro ∧
    (s.calValid = true → s.coef = t.coef) ∧ (s.smpValid = true → s.sample = t.sample) ∧
    (s.outValid = true → s.results = t.results)

/-! ### Runs of several instructions -/

/-- Instructions run one after another, to the first that stops. -/
def runInstrs : List Instr → State → StepResult
  | [], s => .next s
  | i :: rest, s =>
    match exec i s with
    | .next t => runInstrs rest t
    | .fault e => .fault e
    | .refused r => .refused r

/-- The state a host's request leaves behind: its command's effect, or `IllegalCommand` (R61, R84). -/
def serve (s : State) (r : Request) : State :=
  match decodeRequest r with
  | .ok i =>
    match exec i s with
    | .next t => t
    | .fault _ => s
    | .refused _ => s
  | .error _ => s.raise .illegalCommand

/-- The 25 stages of COMPENSATE in the reference order of R221. -/
def stageOrder : List Instr :=
  [.tVar1, .tVar2, .tFine, .tCenti] ++
    [.pA1, .pB1, .pB2, .pB3, .pA2, .pDen, .pGuard, .pQ1, .pC1, .pC2, .pPa, .pHpa] ++
    [.hG, .hA, .hB, .hC, .hD, .hE, .hF, .hClamp] ++ [.tFahr]

/-- The stages that must come before a stage (R221): T.VAR1 and T.VAR2 before T.FINE; T.FINE before T.CENTI, P.A1 and
H.G; T.CENTI before T.FAHR; inside Steps 2 and 3 the order of their rules. -/
def stageNeeds : Instr → List Instr
  | .tFine => [.tVar1, .tVar2]
  | .tCenti => [.tFine]
  | .tFahr => [.tCenti]
  | .pA1 => [.tFine]
  | .pB1 => [.pA1]
  | .pB2 => [.pB1]
  | .pB3 => [.pB2]
  | .pA2 => [.pB3]
  | .pDen => [.pA2]
  | .pGuard => [.pDen]
  | .pQ1 => [.pGuard]
  | .pC1 => [.pQ1]
  | .pC2 => [.pC1]
  | .pPa => [.pC2]
  | .pHpa => [.pPa]
  | .hG => [.tFine]
  | .hA => [.hG]
  | .hB => [.hA]
  | .hC => [.hB]
  | .hD => [.hC]
  | .hE => [.hD]
  | .hF => [.hE]
  | .hClamp => [.hF]
  | _ => []

/-- Every stage of the list stands after the stages it needs. -/
def RespectsNeeds (l : List Instr) : Prop :=
  ∀ before x after, l = before ++ x :: after → ∀ y ∈ stageNeeds x, y ∈ before

/-- The 18 micro-operations of a DECODE_CAL (R145). -/
def decOps (b24 b1 b7 : Block) : List Instr :=
  [.decT1 b24, .decT2 b24, .decT3 b24] ++
    [.decP1 b24, .decP2 b24, .decP3 b24, .decP4 b24, .decP5 b24, .decP6 b24, .decP7 b24, .decP8 b24, .decP9 b24] ++
    [.decH1 b1, .decH2 b7, .decH3 b7, .decH4 b7, .decH5 b7, .decH6 b7]

/-! ### Shapes that several statements share -/

/-- A micro-operation that takes a register's new value from a block: where the block reaches past index `last` it writes
that value and nothing else, and on a shorter block it raises `BlockLength` (R52). -/
def TakesField {n : Nat} (op : Block → Instr) (last : Nat) (value : Block → BitVec n)
    (write : State → BitVec n → State) : Prop :=
  ∀ b s, (last < b.length → exec (op b) s = .next (write s (value b))) ∧
    (b.length ≤ last → exec (op b) s = .next (s.raise .blockLength))

/-- The integer that a field of a block stands for, in the type its rule gives it (R8, R75, R76). -/
def FieldIs (field : Block → Except Cause Int) (last : Nat) (reading : Block → Int) : Prop :=
  ∀ b, last < b.length → field b = .ok (reading b)

/-- Byte `i` of a block (0 past its end; the statements use it inside only). -/
def byteAt (b : Block) (i : Nat) : Byte := b.getD i 0

/-- The little-endian 16-bit field at index `i` (R56, R75). -/
def word16 (b : Block) (i : Nat) : BitVec 16 := byteAt b (i + 1) ++ byteAt b i

/-- The big-endian 20-bit field at index `i`, in the upper 20 of its 24 bits (R77). -/
def word20 (b : Block) (i : Nat) : BitVec 20 :=
  byteAt b i ++ byteAt b (i + 1) ++ (byteAt b (i + 2)).extractLsb' 4 4

/-- The record that R71 to R76 lay out in the three blocks, field by field as bit patterns. -/
def recordOf (b24 b1 b7 : Block) : Coef :=
  { t := ⟨word16 b24 0, word16 b24 2, word16 b24 4⟩,
    p := ⟨word16 b24 6, word16 b24 8, word16 b24 10, word16 b24 12, word16 b24 14, word16 b24 16, word16 b24 18,
      word16 b24 20, word16 b24 22⟩,
    h := ⟨byteAt b1 0, word16 b7 0, byteAt b7 2, byteAt b7 3 ++ (byteAt b7 4).extractLsb' 0 4,
      byteAt b7 5 ++ (byteAt b7 4).extractLsb' 4 4, byteAt b7 6⟩ }

/-- The sample that R74 and R77 lay out in MEAS. -/
def sampleOf (m : Block) : Sample := ⟨word20 m 0, word20 m 3, byteAt m 6 ++ byteAt m 7⟩

/-- The state after a success that changes nothing but gives a response (R83). -/
def answered (s : State) (r : Reply) : State := { s with outbox := s.outbox ++ [.ok r] }

/-- The state after a refusal in the FAULTED state (R233, R246). -/
def refusedFaulted (s : State) : State := { s with outbox := s.outbox ++ [.fault .faulted] }

/-- The state after a fault of cause `k` and code `code` (R247). -/
def faultedWith (s : State) (k : Cause) (code : BitVec 8) : State :=
  { s with status := s.status ||| 0x80#8, cause := code, outbox := s.outbox ++ [.fault k] }

/-- RDREG of a data register: where the group holds a value and the block is not FAULTED, the answer is the image and
nothing else changes (R232). -/
def ReadsAs (idx : Byte) (valid : State → Bool) (image : State → BitVec 64) : Prop :=
  ∀ s, s.faulted = false → valid s = true →
    exec (.rdreg idx) s = .next { s with outbox := s.outbox ++ [.ok (.image (image s))] }

/-- `tv1` in unbounded integers (R160): division is floor division. -/
def var1Int (traw t1 t2 : Int) : Int := (traw / 8 - 2 * t1) * t2 / 2048

/-- `tv2` in unbounded integers (R161). -/
def var2Int (traw t1 t3 : Int) : Int := (traw / 16 - t1) ^ 2 / 4096 * t3 / 16384

/-- TFINE in unbounded integers (R163). -/
def fineInt (traw t1 t2 t3 : Int) : Int := var1Int traw t1 t2 + var2Int traw t1 t3

/-- TCENTI in unbounded integers (R164). -/
def centiInt (tfine : Int) : Int := (5 * tfine + 128) / 256

/-- `c` is `num/den` correctly rounded (R116, round to nearest, ties to even): no NaN; finite exactly below the midpoint
between the largest finite value and the next power of two; where finite, no finite value is nearer, and of two equally
near ones `c` has the even significand; where infinite, of the sign of `num`. -/
def RoundsTo (num : Int) (den : Nat) (c : F64) : Prop :=
  Binary64.isNaN c = false ∧
  (Binary64.isFinite c = true ↔ num.natAbs < (2 ^ 54 - 1) * 2 ^ 970 * den) ∧
  (Binary64.isFinite c = true → ∀ d, Binary64.isFinite d = true →
    (num * 2 ^ 1074 - Binary64.scaled c * den).natAbs ≤ (num * 2 ^ 1074 - Binary64.scaled d * den).natAbs ∧
    ((num * 2 ^ 1074 - Binary64.scaled c * den).natAbs = (num * 2 ^ 1074 - Binary64.scaled d * den).natAbs →
      Binary64.scaled c ≠ Binary64.scaled d → c.toNat % 2 = 0)) ∧
  (Binary64.isInf c = true → Binary64.sign c = decide (num < 0))

/-! ### The literals of the floating-point stages, as patterns (R11) -/

/-- `1.0` -/
abbrev lit1 : F64 := 0x3FF0000000000000#64

/-- `2.0` -/
abbrev lit2 : F64 := 0x4000000000000000#64

/-- `4.0` -/
abbrev lit4 : F64 := 0x4010000000000000#64

/-- `5.0` -/
abbrev lit5 : F64 := 0x4014000000000000#64

/-- `9.0` -/
abbrev lit9 : F64 := 0x4022000000000000#64

/-- `16.0` -/
abbrev lit16 : F64 := 0x4030000000000000#64

/-- `32.0` -/
abbrev lit32 : F64 := 0x4040000000000000#64

/-- `64.0` -/
abbrev lit64 : F64 := 0x4050000000000000#64

/-- `100.0` -/
abbrev lit100 : F64 := 0x4059000000000000#64

/-- `4096.0` -/
abbrev lit4096 : F64 := 0x40B0000000000000#64

/-- `6250.0` -/
abbrev lit6250 : F64 := 0x40B86A0000000000#64

/-- `16384.0` -/
abbrev lit16384 : F64 := 0x40D0000000000000#64

/-- `32768.0` -/
abbrev lit32768 : F64 := 0x40E0000000000000#64

/-- `64000.0` -/
abbrev lit64000 : F64 := 0x40EF400000000000#64

/-- `65536.0` -/
abbrev lit65536 : F64 := 0x40F0000000000000#64

/-- `76800.0` -/
abbrev lit76800 : F64 := 0x40F2C00000000000#64

/-- `524288.0` -/
abbrev lit524288 : F64 := 0x4120000000000000#64

/-- `1048576.0` -/
abbrev lit1048576 : F64 := 0x4130000000000000#64

/-- `67108864.0` -/
abbrev lit67108864 : F64 := 0x4190000000000000#64

/-- `2147483648.0` -/
abbrev lit2147483648 : F64 := 0x41E0000000000000#64

end Sys2Proof.Safety
end

