-- ==== Sys2Proof/Certificates/Slice0/Obligations.lean ====
section
/-! DEFINITION. The statements about the model, each formalising rules of spec/ or resting on them. -/

open Sys2Proof Sys2Proof.Machine Sys2Proof.Safety

/-! ### Encoding and the step -/

/-- Every well-formed instruction is the decoding of its encoding (30_encoding.md R80 to R85). The byte form of a payload
is the model's (log entry 3), and so is the frame of a micro-operation or stage (log entry 5). -/
def Obligations.DecodeOfEncodeIsTheInstruction : Prop :=
  ∀ i : Instr, i.wellFormed = true → decode (encode i) = .ok i

/-- A frame that decodes is the encoding of what it decodes to, which is well-formed: no bit of it is dropped
(30_encoding.md R80 to R85; log entries 3 and 5). -/
def Obligations.DecodedFrameIsTheEncoding : Prop :=
  ∀ (f : Frame) (i : Instr), decode f = .ok i → i.wellFormed = true ∧ encode i = f

/-- Some words of the encoding tables, written out: the six codes of R81 with their payloads, among them a table word of
DECODE_CAL, and by their numbers of R85 three stages, DEC.T1 on a block of 24 bytes and DEC.H1 on one of 1 byte. The
table words are laid out as log entry 20 says, the bytes of an LDSAMPLE word stand as log entry 3 says, and frames of
micro-operations and stages are the model's (log entry 5). -/
def Obligations.SpecWordsDecode : Prop :=
  decodeTableWord 8 0x00 = some .reset ∧
  decodeTableWord 16 0x1501 = some (.rdreg 0x15) ∧
  decodeTableWord 264 0x1E032D1800014D4B1388D120300CFFF9FF8B22930BD0D63A8CF3003266DE6F2910 = some (.decodeCal
    [41, 111, 222, 102, 50, 0, 243, 140, 58, 214, 208, 11, 147, 34, 139, 255, 249, 255, 12, 48, 32, 209, 136, 19]
    [75] [77, 1, 0, 24, 45, 3, 30]) ∧
  decode (.cmd8 ⟨0x20, [[0x00, 0x04, 0xD5, 0x28], [0x00, 0x08, 0x2B, 0xE0], [0x00, 0x00, 0x7B, 0xFA]]⟩) =
    .ok (.ldsample 316712 535520 31738) ∧
  decode (.cmd8 ⟨0x21, [[77, 82, 128, 130, 190, 0, 123, 250]]⟩) = .ok (.unpack [77, 82, 128, 130, 190, 0, 123, 250]) ∧
  decodeTableWord 8 0x30 = some .compensate ∧
  decodeTableWord 8 0x24 = some .tFahr ∧
  decodeTableWord 8 0x47 = some .hClamp ∧
  decode (.micro (.stg 0x36)) = .ok .pGuard ∧
  decode (.micro (.blk 0x00
    [41, 111, 222, 102, 50, 0, 243, 140, 58, 214, 208, 11, 147, 34, 139, 255, 249, 255, 12, 48, 32, 209, 136, 19])) =
    .ok (.decT1
      [41, 111, 222, 102, 50, 0, 243, 140, 58, 214, 208, 11, 147, 34, 139, 255, 249, 255, 12, 48, 32, 209, 136, 19]) ∧
  decode (.micro (.blk 0x0C [75])) = .ok (.decH1 [75])

/-- A step runs the instruction that the first request decodes to, on the state without that request; with no request
the block holds its state. The list of requests is the model's (log entry 2). Inside a command under way, a step runs the
next part of it, and none in the FAULTED state; that a command can be looked at from inside is the model's (log
entry 5). -/
def Obligations.StepRunsTheDecodedInstruction : Prop :=
  (∀ (s : State) (r : Request) (rest : List Request) (i : Instr), s.micro = [] → s.inbox = r :: rest →
    decode (.cmd8 r) = .ok i → step s = exec i { s with inbox := rest }) ∧
  (∀ s : State, s.micro = [] → s.inbox = [] → step s = .next s) ∧
  (∀ (s : State) (m : Micro) (rest : List Micro) (i : Instr), s.micro = m :: rest → s.faulted = false →
    decode (.micro m) = .ok i → step s = exec i { s with micro := rest }) ∧
  (∀ (s : State) (m : Micro) (rest : List Micro), s.micro = m :: rest → s.faulted = true →
    step s = .next { s with micro := [] })

/-- R70: a micro-operation or stage is not issuable by the host. Between commands, a step waits with no request, runs one
of the six commands as its request says, raises `IllegalCommand` on an unassigned code, or stops on a request that
cannot be presented; and it leaves the block between commands again. The numbers of the stages but 0x20, 0x21 and 0x30,
which are codes of commands too, are unassigned codes. The stop on a request that cannot be presented is the model's, to
which the spec gives no outcome (log entry 4); so are the list of requests and the waiting step (log entry 2), and that
parts of a command can be looked at by themselves (log entry 5). -/
def Obligations.NoPartOfACommandIsIssuable : Prop :=
  (∀ s : State, BetweenCommands s →
    ((s.inbox = [] ∧ step s = .next s) ∨
      ∃ r rest, s.inbox = r :: rest ∧
        ((∃ i, IsCommand i ∧ decode (.cmd8 r) = .ok i ∧ step s = exec i { s with inbox := rest }) ∨
          (decode (.cmd8 r) = .error (.illegalCommand r.code) ∧
            step s = .next (State.raise .illegalCommand { s with inbox := rest })) ∨
          (¬ Presentable r ∧ step s = .fault (.payloadShape r.code)))) ∧
    ∀ t, step s = .next t → BetweenCommands t) ∧
  (∀ (n : Byte) (i : Instr) (payload : List Block), decode (.micro (.stg n)) = .ok i →
    n ≠ 0x20 → n ≠ 0x21 → n ≠ 0x30 → decode (.cmd8 ⟨n, payload⟩) = .error (.illegalCommand n))

/-- R23, R24, R26: between commands, a step changes COEF, SAMPLE and RESULT only as a whole, and only on the requests
that write them. COEF changes to the record of the three blocks of a DECODE_CAL of the right lengths; SAMPLE to the
three words of an LDSAMPLE or to the fields of an UNPACK of 8 bytes; RESULT to what COMPENSATE gives on the record and
the sample; and all three to their reset contents on RESET. Those contents are the model's (log entries 1 and 19), the
layout of an UNPACK is log entry 14, and the list of requests is log entry 2. -/
def Obligations.GroupsAreWrittenAsAWhole : Prop :=
  ∀ s t : State, BetweenCommands s → step s = .next t →
    (t.coef = s.coef ∨ (∃ rest, s.inbox = .reset :: rest ∧ t.coef = Coef.reset) ∨
      ∃ b24 b1 b7 rest, s.inbox = .decodeCal b24 b1 b7 :: rest ∧ b24.length = 24 ∧ b1.length = 1 ∧ b7.length = 7 ∧
        t.coef = recordOf b24 b1 b7) ∧
    (t.sample = s.sample ∨ (∃ rest, s.inbox = .reset :: rest ∧ t.sample = Sample.reset) ∨
      (∃ p v h rest, s.inbox = .ldsample p v h :: rest ∧ t.sample.praw.toNat = p.toNat ∧
        t.sample.traw.toNat = v.toNat ∧ t.sample.hraw.toNat = h.toNat) ∨
      ∃ m rest, s.inbox = .unpack m :: rest ∧ m.length = 8 ∧ t.sample = sampleOf m) ∧
    (t.results = s.results ∨ (∃ rest, s.inbox = .reset :: rest ∧ t.results = Results.reset) ∨
      ∃ rest, s.inbox = .compensate :: rest ∧ t.results = compensate defaultParams s.coef s.sample)

/-- R84, R244: an unassigned command code faults `IllegalCommand`, whatever its payload; none is a hint or a no-op. In
the FAULTED state it is refused like any other (R233). -/
def Obligations.UnassignedCodesFaultIllegalCommand : Prop :=
  ∀ (s : State) (c : Byte) (payload : List Block) (rest : List Request), s.micro = [] →
    (0x02 ≤ c.toNat ∧ c.toNat ≤ 0x0F ∨ 0x11 ≤ c.toNat ∧ c.toNat ≤ 0x1F ∨ 0x22 ≤ c.toNat ∧ c.toNat ≤ 0x2F ∨
      0x31 ≤ c.toNat) → s.inbox = ⟨c, payload⟩ :: rest →
    (s.faulted = false → step s = .next (faultedWith { s with inbox := rest } .illegalCommand 4)) ∧
    (s.faulted = true → step s = .next (refusedFaulted { s with inbox := rest }))

/-- Every instruction completes in every state, and takes no request off the list and changes the responses only by
adding at most one. Of the six commands that is R83, R230, R253 and R280. Of the 46 micro-operations and stages it is the
model's: that each has an effect by itself in every state, FAULTED included (log entries 5 and 7), and that a
micro-operation takes fault entry, with its response, on a short block (log entry 23). The lists are log entry 2. -/
def Obligations.EveryInstructionCompletes : Prop :=
  ∀ (i : Instr) (s : State), ∃ t, exec i s = .next t ∧ t.inbox = s.inbox ∧
    (t.outbox = s.outbox ∨ ∃ r, t.outbox = s.outbox ++ [r])

/-- R61: the state after a command sequence is the left fold of the command rules over the sequence. A run of as many
steps as there are commands ends there, with every command answered (R83). -/
def Obligations.RunIsTheLeftFold : Prop :=
  ∀ (rs : List Request) (s : State), (∀ r ∈ rs, Presentable r) → s.micro = [] → s.inbox = [] →
    Host.Core.run Sys2Proof.core rs.length { s with inbox := rs } = .next (rs.foldl serve s) ∧
    (rs.foldl serve s).outbox.length = s.outbox.length + rs.length

/-- A run stops only on a request that no host can present (R82, R280, R282; log entry 4). -/
def Obligations.PresentableRequestsNeverStop : Prop :=
  ∀ s : State, BetweenCommands s → AllPresentable s → ∃ t, step s = .next t ∧ BetweenCommands t ∧ AllPresentable t

/-! ### Primitives -/

/-- R100 to R103: the byte and word extraction primitives: their values, their ranges, and `BlockLength` outside the
block. -/
def Obligations.BlockPrimitivesReadTheirBytes : Prop :=
  (∀ (b : Block) (i : Nat), i + 1 < b.length →
    unsigned16 b i = .ok ((byteAt b i).toNat + 256 * (byteAt b (i + 1)).toNat) ∧
    (∃ w, unsigned16 b i = .ok w ∧ 0 ≤ w ∧ w ≤ 65535 ∧
      signed16 b i = .ok (if w ≥ 32768 then w - 65536 else w)) ∧
    (∃ v, signed16 b i = .ok v ∧ -32768 ≤ v ∧ v ≤ 32767)) ∧
  (∀ (b : Block) (i : Nat), b.length < i + 2 →
    unsigned16 b i = .error .blockLength ∧ signed16 b i = .error .blockLength) ∧
  (∀ (b : Block) (i : Nat), i < b.length →
    unsigned8 b i = .ok ((byteAt b i).toNat : Int) ∧
    signed8 b i = .ok (if (byteAt b i).toNat > 127 then ((byteAt b i).toNat : Int) - 256 else (byteAt b i).toNat)) ∧
  (∀ (b : Block) (i : Nat), b.length ≤ i →
    unsigned8 b i = .error .blockLength ∧ signed8 b i = .error .blockLength)

/-- R104, R105, R106: the shift sequence is multiplication by 16; `sext12` reads bits 11:0 in two's complement, is
idempotent, is the identity on -2048 .. 2047, and is not the shift pair applied to the whole value; the nibbles of a byte
come out of its signed and of its unsigned reading. -/
def Obligations.SignExtensionAndNibbles : Prop :=
  (∀ s : Int, -128 ≤ s → s ≤ 127 → (hi8To12 s).toInt = 16 * s) ∧
  (∀ x : Int, -2048 ≤ sext12 x ∧ sext12 x ≤ 2047 ∧ (sext12 x - x) % 4096 = 0 ∧ sext12 (sext12 x) = sext12 x) ∧
  (∀ x : Int, -2048 ≤ x → x ≤ 2047 → sext12 x = x) ∧
  (∃ x : Int, -2048 ≤ x ∧ x ≤ 2047 ∧ (hi8To12 x).toInt ≠ sext12 x) ∧
  (∀ b : Byte, (lowNibble (asSigned 8 b.toNat)).toNat = b.toNat % 16 ∧ (highNibble b.toNat).toNat = b.toNat / 16)

/-- R76: the two packed fields. The shift sequence of R138 and R139, the 12-bit pattern read as two's complement, and
the arithmetic form are one function; the high nibble of byte 4 never affects H4, nor the low one H5 (R140). -/
def Obligations.PackedFieldsAgreeInAllForms : Prop :=
  ∀ b : Block, 5 < b.length →
    (fieldH4 b = .ok (asSigned 12 (byteAt b 3 ++ (byteAt b 4).extractLsb' 0 4 : BitVec 12).toNat) ∧
     fieldH4 b = .ok (16 * asSigned 8 (byteAt b 3).toNat + ((byteAt b 4).toNat % 16 : Nat))) ∧
    (fieldH5 b = .ok (asSigned 12 (byteAt b 5 ++ (byteAt b 4).extractLsb' 4 4 : BitVec 12).toNat) ∧
     fieldH5 b = .ok (16 * asSigned 8 (byteAt b 5).toNat + ((byteAt b 4).toNat / 16 : Nat)))

/-! ### The calibration decoder -/

/-- R120 to R131: each micro-operation on CAL1 writes its one register with the little-endian field at its offset, and
nothing else. T1 and P1 stand for the unsigned reading of their field, the others for the signed one. That a
micro-operation has an effect by itself, in every state (FAULTED included), is the model's (log entries 5 and 7), and so
is its fault entry on a block that ends before the field (log entry 23). -/
def Obligations.Cal1MicroOperationsTakeTheirFields : Prop :=
  TakesField .decT1 1 (word16 · 0) (fun s v => s.setT { s.coef.t with t1 := v }) ∧
  TakesField .decT2 3 (word16 · 2) (fun s v => s.setT { s.coef.t with t2 := v }) ∧
  TakesField .decT3 5 (word16 · 4) (fun s v => s.setT { s.coef.t with t3 := v }) ∧
  TakesField .decP1 7 (word16 · 6) (fun s v => s.setP { s.coef.p with p1 := v }) ∧
  TakesField .decP2 9 (word16 · 8) (fun s v => s.setP { s.coef.p with p2 := v }) ∧
  TakesField .decP3 11 (word16 · 10) (fun s v => s.setP { s.coef.p with p3 := v }) ∧
  TakesField .decP4 13 (word16 · 12) (fun s v => s.setP { s.coef.p with p4 := v }) ∧
  TakesField .decP5 15 (word16 · 14) (fun s v => s.setP { s.coef.p with p5 := v }) ∧
  TakesField .decP6 17 (word16 · 16) (fun s v => s.setP { s.coef.p with p6 := v }) ∧
  TakesField .decP7 19 (word16 · 18) (fun s v => s.setP { s.coef.p with p7 := v }) ∧
  TakesField .decP8 21 (word16 · 20) (fun s v => s.setP { s.coef.p with p8 := v }) ∧
  TakesField .decP9 23 (word16 · 22) (fun s v => s.setP { s.coef.p with p9 := v }) ∧
  FieldIs fieldT1 1 (fun b => (word16 b 0).toNat) ∧
  FieldIs fieldT2 3 (fun b => (word16 b 2).toInt) ∧
  FieldIs fieldT3 5 (fun b => (word16 b 4).toInt) ∧
  FieldIs fieldP1 7 (fun b => (word16 b 6).toNat) ∧
  FieldIs fieldP2 9 (fun b => (word16 b 8).toInt) ∧
  FieldIs fieldP3 11 (fun b => (word16 b 10).toInt) ∧
  FieldIs fieldP4 13 (fun b => (word16 b 12).toInt) ∧
  FieldIs fieldP5 15 (fun b => (word16 b 14).toInt) ∧
  FieldIs fieldP6 17 (fun b => (word16 b 16).toInt) ∧
  FieldIs fieldP7 19 (fun b => (word16 b 18).toInt) ∧
  FieldIs fieldP8 21 (fun b => (word16 b 20).toInt) ∧
  FieldIs fieldP9 23 (fun b => (word16 b 22).toInt)

/-- R132 to R135, R138, R139: each micro-operation on CAL2 and CAL3 writes its one register, H4 and H5 from the byte and
the nibble that R76 gives them, and nothing else. H1 and H3 stand for the unsigned reading of their field, the others for
the signed one. That a micro-operation has an effect by itself, in every state (FAULTED included), is the model's (log
entries 5 and 7), and so is its fault entry on a shorter block (log entry 23). -/
def Obligations.HumidityMicroOperationsTakeTheirFields : Prop :=
  TakesField .decH1 0 (byteAt · 0) (fun s v => s.setH { s.coef.h with h1 := v }) ∧
  TakesField .decH2 1 (word16 · 0) (fun s v => s.setH { s.coef.h with h2 := v }) ∧
  TakesField .decH3 2 (byteAt · 2) (fun s v => s.setH { s.coef.h with h3 := v }) ∧
  TakesField .decH4 4 (fun b => byteAt b 3 ++ (byteAt b 4).extractLsb' 0 4)
    (fun s v => s.setH { s.coef.h with h4 := v }) ∧
  TakesField .decH5 5 (fun b => byteAt b 5 ++ (byteAt b 4).extractLsb' 4 4)
    (fun s v => s.setH { s.coef.h with h5 := v }) ∧
  TakesField .decH6 6 (byteAt · 6) (fun s v => s.setH { s.coef.h with h6 := v }) ∧
  FieldIs fieldH1 0 (fun b => (byteAt b 0).toNat) ∧
  FieldIs fieldH2 1 (fun b => (word16 b 0).toInt) ∧
  FieldIs fieldH3 2 (fun b => (byteAt b 2).toNat) ∧
  FieldIs fieldH4 4 (fun b => (byteAt b 3 ++ (byteAt b 4).extractLsb' 0 4 : BitVec 12).toInt) ∧
  FieldIs fieldH5 5 (fun b => (byteAt b 5 ++ (byteAt b 4).extractLsb' 4 4 : BitVec 12).toInt) ∧
  FieldIs fieldH6 6 (fun b => (byteAt b 6).toInt)

/-- R224: DECODE_CAL. Refused in the FAULTED state; `BlockLength` where any of the three lengths is wrong, with no
register and no valid flag written; otherwise all 18 coefficients, `CAL_VALID` set, `OUT_VALID` cleared, and sample,
results and `SMP_VALID` as they were. -/
def Obligations.DecodeCalStartsASession : Prop :=
  ∀ (b24 b1 b7 : Block) (s : State),
    (s.faulted = true → exec (.decodeCal b24 b1 b7) s = .next (refusedFaulted s)) ∧
    (s.faulted = false → (b24.length ≠ 24 ∨ b1.length ≠ 1 ∨ b7.length ≠ 7) →
      exec (.decodeCal b24 b1 b7) s = .next (faultedWith s .blockLength 1)) ∧
    (s.faulted = false → b24.length = 24 → b1.length = 1 → b7.length = 7 →
      exec (.decodeCal b24 b1 b7) s = .next (answered
        { s with coef := recordOf b24 b1 b7, status := (s.status ||| 0x01#8) &&& ~~~0x04#8 } .none))

/-- R143, R144: decoding is total over the right lengths and rejects no byte values; it has no value outside them, on a
block too short or too long; and it is injective, so that no input bit is lost. -/
def Obligations.DecodeCalibrationIsTotalAndInjective : Prop :=
  (∀ b24 b1 b7 : Block, b24.length = 24 → b1.length = 1 → b7.length = 7 → ∃ c, decodeCalibration b24 b1 b7 = .ok c) ∧
  (∀ b24 b1 b7 : Block, (b24.length ≠ 24 ∨ b1.length ≠ 1 ∨ b7.length ≠ 7) →
    decodeCalibration b24 b1 b7 = .error .blockLength) ∧
  (∀ b24 b1 b7 c24 c1 c7 : Block, b24.length = 24 → b1.length = 1 → b7.length = 7 →
    c24.length = 24 → c1.length = 1 → c7.length = 7 →
    decodeCalibration b24 b1 b7 = decodeCalibration c24 c1 c7 → b24 = c24 ∧ b1 = c1 ∧ b7 = c7)

/-- R145: the 18 micro-operations, run in any order, have the effect of DECODE_CAL on COEF and no other.
That they run by themselves is the model's (log entries 5 and 7). -/
def Obligations.DecMicroOperationsInAnyOrder : Prop :=
  ∀ (b24 b1 b7 : Block) (l : List Instr) (s : State), b24.length = 24 → b1.length = 1 → b7.length = 7 →
    l.Perm (decOps b24 b1 b7) → runInstrs l s = .next { s with coef := recordOf b24 b1 b7 }

/-! ### The raw sample -/

/-- R150, R151, R152: each micro-operation on MEAS writes its one register with its field, most significant byte first,
and nothing else. The layout is log entry 14. That a micro-operation has an effect by itself, in every state (FAULTED
included), is the model's (log entries 5 and 7), and so is its fault entry on a shorter block (log entry 23). -/
def Obligations.UnpackMicroOperationsTakeTheirFields : Prop :=
  TakesField .unpP 2 (word20 · 0) (fun s v => s.setSample { s.sample with praw := v }) ∧
  TakesField .unpT 5 (word20 · 3) (fun s v => s.setSample { s.sample with traw := v }) ∧
  TakesField .unpH 7 (fun m => byteAt m 6 ++ byteAt m 7) (fun s v => s.setSample { s.sample with hraw := v })

/-- R154, R156: LDSAMPLE. Refused in the FAULTED state; `SampleWidth` where a word is outside its width, with nothing
written; otherwise the three registers take the words' values and `SMP_VALID` is set; COEF, RESULT, `CAL_VALID` and
`OUT_VALID` are as they were. -/
def Obligations.LdsampleLoadsOrFaults : Prop :=
  ∀ (p t h : BitVec 32) (s : State),
    (s.faulted = true → exec (.ldsample p t h) s = .next (refusedFaulted s)) ∧
    (s.faulted = false → (1048576 ≤ p.toNat ∨ 1048576 ≤ t.toNat ∨ 65536 ≤ h.toNat) →
      exec (.ldsample p t h) s = .next (faultedWith s .sampleWidth 2)) ∧
    (s.faulted = false → p.toNat < 1048576 → t.toNat < 1048576 → h.toNat < 65536 →
      ∃ x : Sample, x.praw.toNat = p.toNat ∧ x.traw.toNat = t.toNat ∧ x.hraw.toNat = h.toNat ∧
        exec (.ldsample p t h) s = .next (answered { s with sample := x, status := s.status ||| 0x02#8 } .none))

/-- R155: UNPACK. Refused in the FAULTED state; `BlockLength` unless the block has 8 bytes, with nothing written;
otherwise the three registers take their fields and `SMP_VALID` is set. The layout is log entry 14. -/
def Obligations.UnpackLoadsOrFaults : Prop :=
  ∀ (m : Block) (s : State),
    (s.faulted = true → exec (.unpack m) s = .next (refusedFaulted s)) ∧
    (s.faulted = false → m.length ≠ 8 → exec (.unpack m) s = .next (faultedWith s .blockLength 1)) ∧
    (s.faulted = false → m.length = 8 →
      exec (.unpack m) s = .next (answered { s with sample := sampleOf m, status := s.status ||| 0x02#8 } .none))

/-- R153, R78: `unpack_sample` is total on 8-byte blocks, has no value on any other, is onto, and ignores the low nibbles
of bytes 2 and 5. The layout of MEAS is log entry 14. -/
def Obligations.UnpackSampleIsOnto : Prop :=
  (∀ m : Block, m.length = 8 → ∃ x, unpackSample m = .ok x) ∧
  (∀ m : Block, m.length ≠ 8 → unpackSample m = .error .blockLength) ∧
  (∀ x : Sample, ∃ m : Block, m.length = 8 ∧ unpackSample m = .ok x) ∧
  (∀ (m0 m1 m2 m3 m4 m5 m6 m7 n2 n5 : Byte), m2 >>> 4 = n2 >>> 4 → m5 >>> 4 = n5 >>> 4 →
    unpackSample [m0, m1, m2, m3, m4, m5, m6, m7] = unpackSample [m0, m1, n2, m3, m4, n5, m6, m7])

/-! ### Temperature -/

/-- R160, R161, R163, R164, R166: the stages of Steps 1 and 4. T.VAR1 and T.VAR2 give the floor formulas over unbounded
integers; T.FINE their sum; T.CENTI the rounded hundredths (as the floor formula, for every TFINE that the block can
reach and far beyond); T.FAHR four rounded operations in order. Each writes its one value and nothing else. That tv1 and
tv2 pass through the trace scratch is the model's (log entry 6). -/
def Obligations.TemperatureStagesComplete : Prop :=
  (∀ s : State, ∃ v : I64, exec .tVar1 s = .next { s with scratch := { s.scratch with tv1 := v } } ∧
    v.toInt = var1Int s.sample.traw.toNat s.coef.t.t1.toNat s.coef.t.t2.toInt) ∧
  (∀ s : State, ∃ v : I64, exec .tVar2 s = .next { s with scratch := { s.scratch with tv2 := v } } ∧
    v.toInt = var2Int s.sample.traw.toNat s.coef.t.t1.toNat s.coef.t.t3.toInt) ∧
  (∀ s : State, exec .tFine s =
    .next { s with results := { s.results with tfine := s.scratch.tv1 + s.scratch.tv2 } }) ∧
  (∀ s : State, ∃ v : I64, exec .tCenti s = .next { s with results := { s.results with tcenti := v } } ∧
    v = (s.results.tfine * 5#64 + 128#64).sshiftRight 8 ∧
    (-(2 : Int) ^ 60 ≤ s.results.tfine.toInt → s.results.tfine.toInt ≤ 2 ^ 60 →
      v.toInt = centiInt s.results.tfine.toInt)) ∧
  (∀ s : State, exec .tFahr s = .next { s with results := { s.results with
    outF := Binary64.add (Binary64.div (Binary64.mul (Binary64.div (Binary64.ofInt s.results.tcenti.toInt) lit100)
      lit9) lit5) lit32 } })

/-- R110: the integer path in `i64` equals the path in unbounded integers, for every record and sample: TFINE and TCENTI
of `compensate` are the floor formulas. -/
def Obligations.IntegerPathIsExact : Prop :=
  ∀ (P : Params) (c : Coef) (x : Sample),
    (compensate P c x).tfine.toInt = fineInt x.traw.toNat c.t.t1.toNat c.t.t2.toInt c.t.t3.toInt ∧
    (compensate P c x).tcenti.toInt = centiInt (fineInt x.traw.toNat c.t.t1.toNat c.t.t2.toInt c.t.t3.toInt)

/-- R111: the reachable ranges of tv1, tv2, TFINE and TCENTI, for every record and sample. -/
def Obligations.IntegerPathStaysInRange : Prop :=
  ∀ (P : Params) (c : Coef) (x : Sample),
    (-2097136 ≤ (stageVar1 x.traw c.t.t1 c.t.t2).toInt ∧ (stageVar1 x.traw c.t.t1 c.t.t2).toInt ≤ 2097120) ∧
    (-2097088 ≤ (stageVar2 x.traw c.t.t1 c.t.t3).toInt ∧ (stageVar2 x.traw c.t.t1 c.t.t3).toInt ≤ 2097024) ∧
    (-4194224 ≤ (compensate P c x).tfine.toInt ∧ (compensate P c x).tfine.toInt ≤ 4194144) ∧
    (-81918 ≤ (compensate P c x).tcenti.toInt ∧ (compensate P c x).tcenti.toInt ≤ 81917)

/-! ### Floating point -/

/-- R117: `f64(i)` is exact up to 2^53. That NUM is binary64 is log entry 9. -/
def Obligations.ConversionIsExact : Prop :=
  ∀ i : Int, i.natAbs ≤ 2 ^ 53 →
    Binary64.isFinite (Binary64.ofInt i) = true ∧ Binary64.scaled (Binary64.ofInt i) = i * 2 ^ 1074

/-- R116: on finite operands each of `+f`, `-f`, `*f`, `/f` is the correctly rounded operation under round to nearest,
ties to even, subnormals included, with IEEE 754's overflow and signs of zero. That NUM is binary64 is the spec's default
and the model's choice (log entry 9). -/
def Obligations.OperationsAreCorrectlyRounded : Prop :=
  ∀ a b : F64, Binary64.isFinite a = true → Binary64.isFinite b = true →
    RoundsTo (Binary64.scaled a + Binary64.scaled b) (2 ^ 1074) (Binary64.add a b) ∧
    RoundsTo (Binary64.scaled a - Binary64.scaled b) (2 ^ 1074) (Binary64.sub a b) ∧
    RoundsTo (Binary64.scaled a * Binary64.scaled b) (2 ^ 2148) (Binary64.mul a b) ∧
    (Binary64.scaled b ≠ 0 →
      RoundsTo (Binary64.scaled a * (Binary64.scaled b).sign) (Binary64.scaled b).natAbs (Binary64.div a b) ∧
      Binary64.sign (Binary64.div a b) = (Binary64.sign a != Binary64.sign b)) ∧
    Binary64.sign (Binary64.mul a b) = (Binary64.sign a != Binary64.sign b) ∧
    (Binary64.scaled a + Binary64.scaled b = 0 →
      Binary64.sign (Binary64.add a b) = (Binary64.sign a && Binary64.sign b)) ∧
    (Binary64.scaled a - Binary64.scaled b = 0 →
      Binary64.sign (Binary64.sub a b) = (Binary64.sign a && !Binary64.sign b))

/-- R118: the two zeros are equal and neither is below or above the other; a comparison with a NaN is false.
That NUM is binary64 is log entry 9. -/
def Obligations.ComparisonsOfZerosAndNaNs : Prop :=
  Binary64.eq 0x0000000000000000#64 0x8000000000000000#64 = true ∧
  Binary64.eq 0x8000000000000000#64 0x0000000000000000#64 = true ∧
  Binary64.lt 0x8000000000000000#64 0x0000000000000000#64 = false ∧
  Binary64.lt 0x0000000000000000#64 0x8000000000000000#64 = false ∧
  Binary64.gt 0x8000000000000000#64 0x0000000000000000#64 = false ∧
  Binary64.gt 0x0000000000000000#64 0x8000000000000000#64 = false ∧
  (∀ x y : F64, Binary64.isNaN x = true →
    Binary64.eq x y = false ∧ Binary64.eq y x = false ∧ Binary64.lt x y = false ∧ Binary64.lt y x = false ∧
    Binary64.gt x y = false ∧ Binary64.gt y x = false)

/-! ### Pressure -/

/-- R181 to R186, R188 to R192: the stages of Step 2, each one rounded expression in the order written. Q1, C1, C2 and PA
are skipped where the guard has fired (R187). That the values pass through the trace scratch, and that the skip is a flag
of it, is the model's (log entries 6 and 8); the formula is the spec's from general knowledge (log entry 12). -/
def Obligations.PressureStagesComplete : Prop :=
  ∀ s : State,
    let x := s.scratch
    let P := s.coef.p
    exec .pA1 s = .next { s with scratch := { x with
      a1 := Binary64.sub (Binary64.div (Binary64.ofInt s.results.tfine.toInt) lit2) lit64000 } } ∧
    exec .pB1 s = .next { s with scratch := { x with
      b1 := Binary64.div (Binary64.mul (Binary64.mul x.a1 x.a1) (Binary64.ofInt P.p6.toInt)) lit32768 } } ∧
    exec .pB2 s = .next { s with scratch := { x with
      b2 := Binary64.add x.b1 (Binary64.mul (Binary64.mul x.a1 (Binary64.ofInt P.p5.toInt)) lit2) } } ∧
    exec .pB3 s = .next { s with scratch := { x with
      b3 := Binary64.add (Binary64.div x.b2 lit4) (Binary64.mul (Binary64.ofInt P.p4.toInt) lit65536) } } ∧
    exec .pA2 s = .next { s with scratch := { x with
      a2 := Binary64.div (Binary64.add
        (Binary64.div (Binary64.mul (Binary64.mul (Binary64.ofInt P.p3.toInt) x.a1) x.a1) lit524288)
        (Binary64.mul (Binary64.ofInt P.p2.toInt) x.a1)) lit524288 } } ∧
    exec .pDen s = .next { s with scratch := { x with
      a3 := Binary64.mul (Binary64.add lit1 (Binary64.div x.a2 lit32768)) (Binary64.ofInt P.p1.toNat) } } ∧
    exec .pHpa s = .next { s with results := { s.results with outHpa := Binary64.div x.ppa lit100 } } ∧
    (x.guardFired = false →
      exec .pQ1 s = .next { s with scratch := { x with
        q1 := Binary64.div (Binary64.mul (Binary64.sub
          (Binary64.sub lit1048576 (Binary64.ofInt s.sample.praw.toNat)) (Binary64.div x.b3 lit4096)) lit6250) x.a3 } } ∧
      exec .pC1 s = .next { s with scratch := { x with
        c1 := Binary64.div (Binary64.mul (Binary64.mul (Binary64.ofInt P.p9.toInt) x.q1) x.q1) lit2147483648 } } ∧
      exec .pC2 s = .next { s with scratch := { x with
        c2 := Binary64.div (Binary64.mul x.q1 (Binary64.ofInt P.p8.toInt)) lit32768 } } ∧
      exec .pPa s = .next { s with scratch := { x with
        ppa := Binary64.add x.q1
          (Binary64.div (Binary64.add (Binary64.add x.c1 x.c2) (Binary64.ofInt P.p7.toInt)) lit16) } }) ∧
    (x.guardFired = true →
      exec .pQ1 s = .next s ∧ exec .pC1 s = .next s ∧ exec .pC2 s = .next s ∧ exec .pPa s = .next s)

/-- R187: the guard. For every NUM and PRESS_FN the pascal value is zero where the denominator equals zero and PRESS_FN's
otherwise; in binary64 the guard fires on +0.0 and on -0.0 and on nothing else; the stage P.GUARD records it, and sets
`ppa` to +0.0 where it fires. No flag and no cause changes. The scratch is log entries 6 and 8, binary64 log entry 9. -/
def Obligations.GuardHoldsForEveryPressFn : Prop :=
  (∀ (N : Numerics) (F : PressFn) (tfine : I64) (c : PCal) (praw : BitVec 20),
    guardedPa N F tfine c praw =
      if N.eq (F.den tfine c praw) (N.ofInt 0) = true then N.ofInt 0 else F.pa tfine c praw) ∧
  (∀ a3 : F64, guardFires binary64 a3 = true ↔ a3 = 0x0000000000000000#64 ∨ a3 = 0x8000000000000000#64) ∧
  (∀ s : State, (s.scratch.a3 = 0x0000000000000000#64 ∨ s.scratch.a3 = 0x8000000000000000#64) →
    exec .pGuard s = .next { s with scratch := { s.scratch with guardFired := true, ppa := 0x0000000000000000#64 } }) ∧
  (∀ s : State, s.scratch.a3 ≠ 0x0000000000000000#64 → s.scratch.a3 ≠ 0x8000000000000000#64 →
    exec .pGuard s = .next { s with scratch := { s.scratch with guardFired := false } })

/-- R192: for every NUM and PRESS_FN the pressure is the guarded pascal value divided by 100. -/
def Obligations.PressureIsPascalOverHundred : Prop :=
  ∀ (P : Params) (c : Coef) (x : Sample),
    (compensate P c x).outHpa =
      P.num.div (guardedPa P.num P.press (compensate P c x).tfine c.p x.praw) (P.num.ofInt 100)

/-- R187 corner case 1, on the default formula: with P1 = 0 the pressure is +0.0 exactly, for every other coefficient and
every sample. The formula is log entry 12, the arithmetic log entry 9. -/
def Obligations.ZeroP1GivesZeroPressure : Prop :=
  ∀ (c : Coef) (x : Sample), c.p.p1 = 0 → (compensate defaultParams c x).outHpa = 0x0000000000000000#64

/-! ### Humidity -/

/-- R201 to R207: the stages of Step 3, each one rounded expression in the order written. That the values pass through
the trace scratch is the model's (log entry 6); the formula is the spec's from general knowledge (log entry 13). -/
def Obligations.HumidityStagesComplete : Prop :=
  ∀ s : State,
    let x := s.scratch
    let H := s.coef.h
    exec .hG s = .next { s with scratch := { x with
      g := Binary64.sub (Binary64.ofInt s.results.tfine.toInt) lit76800 } } ∧
    exec .hA s = .next { s with scratch := { x with
      hA := Binary64.sub (Binary64.ofInt s.sample.hraw.toNat) (Binary64.add
        (Binary64.mul (Binary64.ofInt H.h4.toInt) lit64)
        (Binary64.mul (Binary64.div (Binary64.ofInt H.h5.toInt) lit16384) x.g)) } } ∧
    exec .hB s = .next { s with scratch := { x with
      hB := Binary64.add lit1 (Binary64.mul (Binary64.div (Binary64.ofInt H.h3.toNat) lit67108864) x.g) } } ∧
    exec .hC s = .next { s with scratch := { x with
      hC := Binary64.add lit1 (Binary64.mul
        (Binary64.mul (Binary64.div (Binary64.ofInt H.h6.toInt) lit67108864) x.g) x.hB) } } ∧
    exec .hD s = .next { s with scratch := { x with
      hD := Binary64.mul (Binary64.div (Binary64.ofInt H.h2.toInt) lit65536) x.hC } } ∧
    exec .hE s = .next { s with scratch := { x with hE := Binary64.mul x.hA x.hD } } ∧
    exec .hF s = .next { s with scratch := { x with
      hF := Binary64.mul x.hE (Binary64.sub lit1
        (Binary64.div (Binary64.mul (Binary64.ofInt H.h1.toNat) x.hE) lit524288)) } }

/-- R208: the clamp. For every NUM and HUM_FN the output is 100 above 100, +0 below 0, and the formula's value otherwise;
the stage H.CLAMP does the same to hF; in binary64 the output of a value that is no NaN lies in [0, 100], -0.0 passes
unchanged, and a NaN passes through. The scratch is log entry 6, binary64 log entry 9. -/
def Obligations.ClampHoldsForEveryHumFn : Prop :=
  (∀ (N : Numerics) (F : HumFn) (tfine : I64) (c : HCal) (hraw : BitVec 16),
    humidity N F tfine c hraw =
      if N.gt (F.unclamped tfine c hraw) (N.ofInt 100) = true then N.ofInt 100
      else if N.lt (F.unclamped tfine c hraw) (N.ofInt 0) = true then N.ofInt 0
      else F.unclamped tfine c hraw) ∧
  (∀ s : State, ∃ v : F64, exec .hClamp s = .next { s with results := { s.results with outPct := v } } ∧
    (Binary64.isNaN s.scratch.hF = true → v = s.scratch.hF) ∧
    (Binary64.isNaN s.scratch.hF = false → 100 * 2 ^ 1074 < Binary64.scaled s.scratch.hF → v = lit100) ∧
    (Binary64.isNaN s.scratch.hF = false → Binary64.scaled s.scratch.hF < 0 → v = 0x0000000000000000#64) ∧
    (0 ≤ Binary64.scaled s.scratch.hF → Binary64.scaled s.scratch.hF ≤ 100 * 2 ^ 1074 → v = s.scratch.hF))

/-- R209, R210: on the default formula the humidity is never a NaN and always in [0, 100] (-0.0 counting as 0), for every
record and sample. The formula is log entry 13, the arithmetic log entry 9. -/
def Obligations.HumidityIsAlwaysAPercentage : Prop :=
  ∀ (c : Coef) (x : Sample),
    Binary64.isFinite (compensate defaultParams c x).outPct = true ∧
    0 ≤ Binary64.scaled (compensate defaultParams c x).outPct ∧
    Binary64.scaled (compensate defaultParams c x).outPct ≤ 100 * 2 ^ 1074

/-- R194, R253: on the default formulas no NaN and no infinity reaches OUT_F or OUT_HPA, for every record and sample. The
formula is log entry 12, the arithmetic log entry 9. -/
def Obligations.FahrenheitAndPressureAreFinite : Prop :=
  ∀ (c : Coef) (x : Sample),
    Binary64.isFinite (compensate defaultParams c x).outF = true ∧
    Binary64.isFinite (compensate defaultParams c x).outHpa = true

/-! ### COMPENSATE -/

/-- R225: COMPENSATE. Refused in the FAULTED state; `NotReady` where COEF or SAMPLE holds no value, with nothing written;
otherwise the five results of R220 and `OUT_VALID`, and the response carries the three values that the registers then
hold. COEF, SAMPLE, `CAL_VALID` and `SMP_VALID` are as they were. -/
def Obligations.CompensateStoresTheResults : Prop :=
  ∀ s : State,
    (s.faulted = true → exec .compensate s = .next (refusedFaulted s)) ∧
    (s.faulted = false → (s.calValid = false ∨ s.smpValid = false) →
      exec .compensate s = .next (faultedWith s .notReady 3)) ∧
    (s.faulted = false → s.calValid = true → s.smpValid = true →
      ∃ r : Results, r = compensate defaultParams s.coef s.sample ∧
        exec .compensate s = .next (answered { s with results := r, status := s.status ||| 0x04#8 }
          (.triple r.outF r.outHpa r.outPct)))

/-- R221: the 25 stages, run one by one in any order that respects the data dependences, leave in RESULT what COMPENSATE
leaves there, and change no other register. That stages can be run one by one is the model's (log entries 5 and 6). -/
def Obligations.StagesInAnyOrderAreCompensate : Prop :=
  ∀ (l : List Instr) (s : State), l.Perm stageOrder → RespectsNeeds l →
    ∃ t, runInstrs l s = .next t ∧
      t = { s with results := compensate defaultParams s.coef s.sample, scratch := t.scratch }

/-- R223, R32: COMPENSATE is repeatable and has no hidden state. Two states with the same record and sample, both ready,
give the same results and the same response, whatever else differs; so a second COMPENSATE repeats the first. -/
def Obligations.CompensateDependsOnRecordAndSampleOnly : Prop :=
  (∀ s t s' t' : State, s.faulted = false → t.faulted = false → s.calValid = true → t.calValid = true →
    s.smpValid = true → t.smpValid = true → s.coef = t.coef → s.sample = t.sample →
    exec .compensate s = .next s' → exec .compensate t = .next t' →
    s'.results = t'.results ∧ ∃ r, s'.outbox = s.outbox ++ [r] ∧ t'.outbox = t.outbox ++ [r]) ∧
  (∀ s s' : State, s.faulted = false → s.calValid = true → s.smpValid = true → exec .compensate s = .next s' →
    ∃ r s'', exec .compensate s' = .next s'' ∧ s''.results = s'.results ∧ s'.outbox = s.outbox ++ [r] ∧
      s''.outbox = s'.outbox ++ [r])

/-! ### RESET and RDREG -/

/-- R231, R271: RESET executes in every state, leaves exactly the power-on state and responds Ok. The power-on contents of
the data registers are the model's (log entries 1 and 19), and so are those of the trace scratch (log entries 6 and 19)
and of the trace, empty (log entry 5), and that RESET keeps the lists of requests and responses (log entry 2). -/
def Obligations.ResetLeavesThePowerOnState : Prop :=
  ∀ s : State, exec .reset s = .next (answered { State.reset with inbox := s.inbox, outbox := s.outbox } .none)

/-- R35, R27: after reset STATUS and CAUSE are zero, so that no register holds a value: a COMPENSATE, and a RDREG of any
data register, faults NotReady. -/
def Obligations.NothingIsReadableAfterReset : Prop :=
  State.reset.status = 0 ∧ State.reset.cause = 0 ∧ State.reset.calValid = false ∧ State.reset.smpValid = false ∧
  State.reset.outValid = false ∧ State.reset.faulted = false ∧
  exec .compensate State.reset = .next (faultedWith State.reset .notReady 3) ∧
  (∀ idx : Byte, idx.toNat ≤ 0x1A → idx ≠ 0x17 →
    exec (.rdreg idx) State.reset = .next (faultedWith State.reset .notReady 3))

/-- R232: RDREG. STATUS (with its reserved bits read as 0, R28) and CAUSE are served in every state; any other index is
refused in the FAULTED state; an index that names no register faults BadRegister; a register whose group holds no value
faults NotReady; otherwise the answer is the register's 64-bit image, zero-extended, sign-extended or the f64 pattern as
its type says, and no state changes. -/
def Obligations.RdregAnswersRefusesOrFaults : Prop :=
  (∀ s : State, exec (.rdreg 0x1E) s = .next (answered s (.image ((s.status &&& 0x87#8).setWidth 64))) ∧
    exec (.rdreg 0x1F) s = .next (answered s (.image (s.cause.setWidth 64)))) ∧
  (∀ (s : State) (idx : Byte), idx ≠ 0x1E → idx ≠ 0x1F → s.faulted = true →
    exec (.rdreg idx) s = .next (refusedFaulted s)) ∧
  (∀ (s : State) (idx : Byte), s.faulted = false →
    (idx = 0x17 ∨ 0x1B ≤ idx.toNat ∧ idx.toNat ≤ 0x1D ∨ 0x20 ≤ idx.toNat) →
    exec (.rdreg idx) s = .next (faultedWith s .badRegister 5)) ∧
  (∀ (s : State) (idx : Byte), s.faulted = false →
    (idx.toNat ≤ 0x11 ∧ s.calValid = false ∨ 0x12 ≤ idx.toNat ∧ idx.toNat ≤ 0x14 ∧ s.smpValid = false ∨
      (idx = 0x15 ∨ idx = 0x16 ∨ idx = 0x18 ∨ idx = 0x19 ∨ idx = 0x1A) ∧ s.outValid = false) →
    exec (.rdreg idx) s = .next (faultedWith s .notReady 3)) ∧
  ReadsAs 0x00 State.calValid (fun s => s.coef.t.t1.setWidth 64) ∧
  ReadsAs 0x01 State.calValid (fun s => s.coef.t.t2.signExtend 64) ∧
  ReadsAs 0x02 State.calValid (fun s => s.coef.t.t3.signExtend 64) ∧
  ReadsAs 0x03 State.calValid (fun s => s.coef.p.p1.setWidth 64) ∧
  ReadsAs 0x04 State.calValid (fun s => s.coef.p.p2.signExtend 64) ∧
  ReadsAs 0x05 State.calValid (fun s => s.coef.p.p3.signExtend 64) ∧
  ReadsAs 0x06 State.calValid (fun s => s.coef.p.p4.signExtend 64) ∧
  ReadsAs 0x07 State.calValid (fun s => s.coef.p.p5.signExtend 64) ∧
  ReadsAs 0x08 State.calValid (fun s => s.coef.p.p6.signExtend 64) ∧
  ReadsAs 0x09 State.calValid (fun s => s.coef.p.p7.signExtend 64) ∧
  ReadsAs 0x0A State.calValid (fun s => s.coef.p.p8.signExtend 64) ∧
  ReadsAs 0x0B State.calValid (fun s => s.coef.p.p9.signExtend 64) ∧
  ReadsAs 0x0C State.calValid (fun s => s.coef.h.h1.setWidth 64) ∧
  ReadsAs 0x0D State.calValid (fun s => s.coef.h.h2.signExtend 64) ∧
  ReadsAs 0x0E State.calValid (fun s => s.coef.h.h3.setWidth 64) ∧
  ReadsAs 0x0F State.calValid (fun s => s.coef.h.h4.signExtend 64) ∧
  ReadsAs 0x10 State.calValid (fun s => s.coef.h.h5.signExtend 64) ∧
  ReadsAs 0x11 State.calValid (fun s => s.coef.h.h6.signExtend 64) ∧
  ReadsAs 0x12 State.smpValid (fun s => s.sample.praw.setWidth 64) ∧
  ReadsAs 0x13 State.smpValid (fun s => s.sample.traw.setWidth 64) ∧
  ReadsAs 0x14 State.smpValid (fun s => s.sample.hraw.setWidth 64) ∧
  ReadsAs 0x15 State.outValid (fun s => s.results.tfine) ∧
  ReadsAs 0x16 State.outValid (fun s => s.results.tcenti) ∧
  ReadsAs 0x18 State.outValid (fun s => s.results.outF) ∧
  ReadsAs 0x19 State.outValid (fun s => s.results.outHpa) ∧
  ReadsAs 0x1A State.outValid (fun s => s.results.outPct)

/-! ### Faults -/

/-- R28: where the flags stand in STATUS. -/
def Obligations.StatusBitsAreTheFlags : Prop :=
  ∀ s : State, s.calValid = s.status.getLsbD 0 ∧ s.smpValid = s.status.getLsbD 1 ∧
    s.outValid = s.status.getLsbD 2 ∧ s.faulted = s.status.getLsbD 7

/-- R247: fault entry. Where a step of a host's request takes the block into the FAULTED state, it has written nothing but
FAULTED, CAUSE and the response `Fault(k)`, with `k` one of the causes 1 to 5 and CAUSE its code; the request is used
up. -/
def Obligations.FaultEntryWritesFaultedAndCauseOnly : Prop :=
  ∀ (s t : State) (r : Request) (rest : List Request), s.micro = [] → s.faulted = false →
    s.inbox = r :: rest → step s = .next t →
    t.faulted = true →
    t = faultedWith { s with inbox := rest } .blockLength 1 ∨ t = faultedWith { s with inbox := rest } .sampleWidth 2 ∨
    t = faultedWith { s with inbox := rest } .notReady 3 ∨ t = faultedWith { s with inbox := rest } .illegalCommand 4 ∨
    t = faultedWith { s with inbox := rest } .badRegister 5

/-- R233: commands in the FAULTED state. RESET executes, RDREG of STATUS and of CAUSE execute, and every other command,
an unassigned code and RDREG of any other index among them, responds Fault(Faulted), changes no state and does not
overwrite CAUSE. That RESET leaves the data registers and the trace scratch at the model's reset contents is log entries 1,
6 and 19, and that it keeps the lists of requests and responses is log entry 2. A request that cannot be presented is
left out (log entry 4). -/
def Obligations.FaultedRefusesAllButResetAndStatus : Prop :=
  ∀ (s : State) (r : Request) (rest : List Request), s.micro = [] → s.faulted = true →
    s.inbox = r :: rest → Presentable r →
    (r = .reset → step s = .next (answered { State.reset with inbox := rest, outbox := s.outbox } .none)) ∧
    (r = .rdreg 0x1E →
      step s = .next (answered { s with inbox := rest } (.image ((s.status &&& 0x87#8).setWidth 64)))) ∧
    (r = .rdreg 0x1F → step s = .next (answered { s with inbox := rest } (.image (s.cause.setWidth 64)))) ∧
    (r ≠ .reset → r ≠ .rdreg 0x1E → r ≠ .rdreg 0x1F →
      step s = .next (refusedFaulted { s with inbox := rest }))

/-- R250, R248: the only return from the FAULTED state is RESET, after which no calibration is decoded; every other step
keeps FAULTED and the first cause. -/
def Obligations.OnlyResetLeavesTheFaultedState : Prop :=
  ∀ s t : State, s.faulted = true → step s = .next t →
    (t.faulted = true ∧ t.cause = s.cause) ∨
    (t.faulted = false ∧ t.cause = 0 ∧ t.calValid = false ∧ s.micro = [] ∧ ∃ rest, s.inbox = .reset :: rest)

/-! ### Invariants of every step -/

/-- The control invariant holds after reset (R28, R29, R35). -/
def Obligations.ControlInvariantAtReset : Prop := ControlOk State.reset

/-- The control invariant is kept by every step from every state (R28, R29, R225, R247): the reserved bits stay 0, CAUSE
stays within 0 to 5 and is 0 exactly where FAULTED is 0, and OUT_VALID stands only beside CAL_VALID and SMP_VALID. -/
def Obligations.ControlInvariantIsKept : Prop :=
  ∀ s t : State, ControlOk s → step s = .next t → ControlOk t

/-- After reset no result is readable, no request waits and no command is under way, so the premises of
`CurrentResultsAreKept` hold (R35; the lists are log entries 2 and 5). -/
def Obligations.CurrentResultsAtReset : Prop :=
  State.reset.outValid = false ∧ State.reset.inbox = [] ∧ BetweenCommands State.reset ∧ ResultsCurrent State.reset

/-- R28: between commands, OUT_VALID always says that RESULT holds the results of a COMPENSATE on the current COEF, and
every step keeps that. -/
def Obligations.CurrentResultsAreKept : Prop :=
  ∀ s t : State, BetweenCommands s → ResultsCurrent s → step s = .next t → BetweenCommands t ∧ ResultsCurrent t

/-- R270, R27: no command can observe the contents of a register that holds no value. Two states that agree on all that is
valid give, on the same requests, the same responses and states that again agree on all that is valid; so the
power-on contents that the model chose (log entry 1) show in no response. -/
def Obligations.UnwrittenRegistersAreUnobservable : Prop :=
  ∀ s t s' : State, BetweenCommands s → SameVisible s t → step s = .next s' →
    ∃ t', step t = .next t' ∧ SameVisible s' t'
end

