-- ==== Sys2Proof/Laws/Numerics.lean ====
section
/-! SUPPORT. The default numerics record as its operations, and its literals as patterns. -/

namespace Sys2Proof.Machine

open Sys2Proof.Safety

@[simp] theorem binary64_ofInt : binary64.ofInt = Binary64.ofInt := rfl
@[simp] theorem binary64_add : binary64.add = Binary64.add := rfl
@[simp] theorem binary64_sub : binary64.sub = Binary64.sub := rfl
@[simp] theorem binary64_mul : binary64.mul = Binary64.mul := rfl
@[simp] theorem binary64_div : binary64.div = Binary64.div := rfl
@[simp] theorem binary64_eq : binary64.eq = Binary64.eq := rfl
@[simp] theorem binary64_lt : binary64.lt = Binary64.lt := rfl
@[simp] theorem binary64_gt : binary64.gt = Binary64.gt := rfl

@[simp] theorem binary64_lit_0 : binary64.lit 0 = 0x0000000000000000#64 := by decide +kernel
@[simp] theorem binary64_lit_1 : binary64.lit 1 = lit1 := by decide +kernel
@[simp] theorem binary64_lit_2 : binary64.lit 2 = lit2 := by decide +kernel
@[simp] theorem binary64_lit_4 : binary64.lit 4 = lit4 := by decide +kernel
@[simp] theorem binary64_lit_5 : binary64.lit 5 = lit5 := by decide +kernel
@[simp] theorem binary64_lit_9 : binary64.lit 9 = lit9 := by decide +kernel
@[simp] theorem binary64_lit_16 : binary64.lit 16 = lit16 := by decide +kernel
@[simp] theorem binary64_lit_32 : binary64.lit 32 = lit32 := by decide +kernel
@[simp] theorem binary64_lit_64 : binary64.lit 64 = lit64 := by decide +kernel
@[simp] theorem binary64_lit_100 : binary64.lit 100 = lit100 := by decide +kernel
@[simp] theorem binary64_lit_4096 : binary64.lit 4096 = lit4096 := by decide +kernel
@[simp] theorem binary64_lit_6250 : binary64.lit 6250 = lit6250 := by decide +kernel
@[simp] theorem binary64_lit_16384 : binary64.lit 16384 = lit16384 := by decide +kernel
@[simp] theorem binary64_lit_32768 : binary64.lit 32768 = lit32768 := by decide +kernel
@[simp] theorem binary64_lit_64000 : binary64.lit 64000 = lit64000 := by decide +kernel
@[simp] theorem binary64_lit_65536 : binary64.lit 65536 = lit65536 := by decide +kernel
@[simp] theorem binary64_lit_76800 : binary64.lit 76800 = lit76800 := by decide +kernel
@[simp] theorem binary64_lit_524288 : binary64.lit 524288 = lit524288 := by decide +kernel
@[simp] theorem binary64_lit_1048576 : binary64.lit 1048576 = lit1048576 := by decide +kernel
@[simp] theorem binary64_lit_67108864 : binary64.lit 67108864 = lit67108864 := by decide +kernel
@[simp] theorem binary64_lit_2147483648 : binary64.lit 2147483648 = lit2147483648 := by decide +kernel

end Sys2Proof.Machine
end

