-- ==== Sys2Proof/Laws/State.lean ====
section
/-! SUPPORT. One lemma per field per update of the state: what each named update writes and what it leaves. -/

namespace Sys2Proof.Machine

/-! ### `setCoef` -/

@[simp] theorem State.setCoef_coef (s : State) (c : Coef) : (s.setCoef c).coef = c := rfl
@[simp] theorem State.setCoef_sample (s : State) (c : Coef) : (s.setCoef c).sample = s.sample := rfl
@[simp] theorem State.setCoef_results (s : State) (c : Coef) : (s.setCoef c).results = s.results := rfl
@[simp] theorem State.setCoef_status (s : State) (c : Coef) : (s.setCoef c).status = s.status := rfl
@[simp] theorem State.setCoef_cause (s : State) (c : Coef) : (s.setCoef c).cause = s.cause := rfl
@[simp] theorem State.setCoef_inbox (s : State) (c : Coef) : (s.setCoef c).inbox = s.inbox := rfl
@[simp] theorem State.setCoef_outbox (s : State) (c : Coef) : (s.setCoef c).outbox = s.outbox := rfl
@[simp] theorem State.setCoef_scratch (s : State) (c : Coef) : (s.setCoef c).scratch = s.scratch := rfl
@[simp] theorem State.setCoef_micro (s : State) (c : Coef) : (s.setCoef c).micro = s.micro := rfl

/-! ### `setSample` -/

@[simp] theorem State.setSample_coef (s : State) (x : Sample) : (s.setSample x).coef = s.coef := rfl
@[simp] theorem State.setSample_sample (s : State) (x : Sample) : (s.setSample x).sample = x := rfl
@[simp] theorem State.setSample_results (s : State) (x : Sample) : (s.setSample x).results = s.results := rfl
@[simp] theorem State.setSample_status (s : State) (x : Sample) : (s.setSample x).status = s.status := rfl
@[simp] theorem State.setSample_cause (s : State) (x : Sample) : (s.setSample x).cause = s.cause := rfl
@[simp] theorem State.setSample_inbox (s : State) (x : Sample) : (s.setSample x).inbox = s.inbox := rfl
@[simp] theorem State.setSample_outbox (s : State) (x : Sample) : (s.setSample x).outbox = s.outbox := rfl
@[simp] theorem State.setSample_scratch (s : State) (x : Sample) : (s.setSample x).scratch = s.scratch := rfl
@[simp] theorem State.setSample_micro (s : State) (x : Sample) : (s.setSample x).micro = s.micro := rfl

/-! ### `setResults` -/

@[simp] theorem State.setResults_coef (s : State) (r : Results) : (s.setResults r).coef = s.coef := rfl
@[simp] theorem State.setResults_sample (s : State) (r : Results) : (s.setResults r).sample = s.sample := rfl
@[simp] theorem State.setResults_results (s : State) (r : Results) : (s.setResults r).results = r := rfl
@[simp] theorem State.setResults_status (s : State) (r : Results) : (s.setResults r).status = s.status := rfl
@[simp] theorem State.setResults_cause (s : State) (r : Results) : (s.setResults r).cause = s.cause := rfl
@[simp] theorem State.setResults_inbox (s : State) (r : Results) : (s.setResults r).inbox = s.inbox := rfl
@[simp] theorem State.setResults_outbox (s : State) (r : Results) : (s.setResults r).outbox = s.outbox := rfl
@[simp] theorem State.setResults_scratch (s : State) (r : Results) : (s.setResults r).scratch = s.scratch := rfl
@[simp] theorem State.setResults_micro (s : State) (r : Results) : (s.setResults r).micro = s.micro := rfl

/-! ### `setStatus` -/

@[simp] theorem State.setStatus_coef (s : State) (v : BitVec 8) : (s.setStatus v).coef = s.coef := rfl
@[simp] theorem State.setStatus_sample (s : State) (v : BitVec 8) : (s.setStatus v).sample = s.sample := rfl
@[simp] theorem State.setStatus_results (s : State) (v : BitVec 8) : (s.setStatus v).results = s.results := rfl
@[simp] theorem State.setStatus_status (s : State) (v : BitVec 8) : (s.setStatus v).status = v := rfl
@[simp] theorem State.setStatus_cause (s : State) (v : BitVec 8) : (s.setStatus v).cause = s.cause := rfl
@[simp] theorem State.setStatus_inbox (s : State) (v : BitVec 8) : (s.setStatus v).inbox = s.inbox := rfl
@[simp] theorem State.setStatus_outbox (s : State) (v : BitVec 8) : (s.setStatus v).outbox = s.outbox := rfl
@[simp] theorem State.setStatus_scratch (s : State) (v : BitVec 8) : (s.setStatus v).scratch = s.scratch := rfl
@[simp] theorem State.setStatus_micro (s : State) (v : BitVec 8) : (s.setStatus v).micro = s.micro := rfl

/-! ### `setCause` -/

@[simp] theorem State.setCause_coef (s : State) (v : BitVec 8) : (s.setCause v).coef = s.coef := rfl
@[simp] theorem State.setCause_sample (s : State) (v : BitVec 8) : (s.setCause v).sample = s.sample := rfl
@[simp] theorem State.setCause_results (s : State) (v : BitVec 8) : (s.setCause v).results = s.results := rfl
@[simp] theorem State.setCause_status (s : State) (v : BitVec 8) : (s.setCause v).status = s.status := rfl
@[simp] theorem State.setCause_cause (s : State) (v : BitVec 8) : (s.setCause v).cause = v := rfl
@[simp] theorem State.setCause_inbox (s : State) (v : BitVec 8) : (s.setCause v).inbox = s.inbox := rfl
@[simp] theorem State.setCause_outbox (s : State) (v : BitVec 8) : (s.setCause v).outbox = s.outbox := rfl
@[simp] theorem State.setCause_scratch (s : State) (v : BitVec 8) : (s.setCause v).scratch = s.scratch := rfl
@[simp] theorem State.setCause_micro (s : State) (v : BitVec 8) : (s.setCause v).micro = s.micro := rfl

/-! ### `setScratch` -/

@[simp] theorem State.setScratch_coef (s : State) (x : Scratch) : (s.setScratch x).coef = s.coef := rfl
@[simp] theorem State.setScratch_sample (s : State) (x : Scratch) : (s.setScratch x).sample = s.sample := rfl
@[simp] theorem State.setScratch_results (s : State) (x : Scratch) : (s.setScratch x).results = s.results := rfl
@[simp] theorem State.setScratch_status (s : State) (x : Scratch) : (s.setScratch x).status = s.status := rfl
@[simp] theorem State.setScratch_cause (s : State) (x : Scratch) : (s.setScratch x).cause = s.cause := rfl
@[simp] theorem State.setScratch_inbox (s : State) (x : Scratch) : (s.setScratch x).inbox = s.inbox := rfl
@[simp] theorem State.setScratch_outbox (s : State) (x : Scratch) : (s.setScratch x).outbox = s.outbox := rfl
@[simp] theorem State.setScratch_scratch (s : State) (x : Scratch) : (s.setScratch x).scratch = x := rfl
@[simp] theorem State.setScratch_micro (s : State) (x : Scratch) : (s.setScratch x).micro = s.micro := rfl

/-! ### `respond` -/

@[simp] theorem State.respond_coef (s : State) (r : Response) : (s.respond r).coef = s.coef := rfl
@[simp] theorem State.respond_sample (s : State) (r : Response) : (s.respond r).sample = s.sample := rfl
@[simp] theorem State.respond_results (s : State) (r : Response) : (s.respond r).results = s.results := rfl
@[simp] theorem State.respond_status (s : State) (r : Response) : (s.respond r).status = s.status := rfl
@[simp] theorem State.respond_cause (s : State) (r : Response) : (s.respond r).cause = s.cause := rfl
@[simp] theorem State.respond_inbox (s : State) (r : Response) : (s.respond r).inbox = s.inbox := rfl
@[simp] theorem State.respond_outbox (s : State) (r : Response) : (s.respond r).outbox = s.outbox ++ [r] := rfl
@[simp] theorem State.respond_scratch (s : State) (r : Response) : (s.respond r).scratch = s.scratch := rfl
@[simp] theorem State.respond_micro (s : State) (r : Response) : (s.respond r).micro = s.micro := rfl

/-! ### `present` -/

@[simp] theorem State.present_coef (s : State) (r : Request) : (s.present r).coef = s.coef := rfl
@[simp] theorem State.present_sample (s : State) (r : Request) : (s.present r).sample = s.sample := rfl
@[simp] theorem State.present_results (s : State) (r : Request) : (s.present r).results = s.results := rfl
@[simp] theorem State.present_status (s : State) (r : Request) : (s.present r).status = s.status := rfl
@[simp] theorem State.present_cause (s : State) (r : Request) : (s.present r).cause = s.cause := rfl
@[simp] theorem State.present_inbox (s : State) (r : Request) : (s.present r).inbox = r :: s.inbox := rfl
@[simp] theorem State.present_outbox (s : State) (r : Request) : (s.present r).outbox = s.outbox := rfl
@[simp] theorem State.present_scratch (s : State) (r : Request) : (s.present r).scratch = s.scratch := rfl
@[simp] theorem State.present_micro (s : State) (r : Request) : (s.present r).micro = [] := rfl

/-! ### `trace` -/

@[simp] theorem State.trace_coef (s : State) (m : Micro) : (s.trace m).coef = s.coef := rfl
@[simp] theorem State.trace_sample (s : State) (m : Micro) : (s.trace m).sample = s.sample := rfl
@[simp] theorem State.trace_results (s : State) (m : Micro) : (s.trace m).results = s.results := rfl
@[simp] theorem State.trace_status (s : State) (m : Micro) : (s.trace m).status = s.status := rfl
@[simp] theorem State.trace_cause (s : State) (m : Micro) : (s.trace m).cause = s.cause := rfl
@[simp] theorem State.trace_inbox (s : State) (m : Micro) : (s.trace m).inbox = s.inbox := rfl
@[simp] theorem State.trace_outbox (s : State) (m : Micro) : (s.trace m).outbox = s.outbox := rfl
@[simp] theorem State.trace_scratch (s : State) (m : Micro) : (s.trace m).scratch = s.scratch := rfl
@[simp] theorem State.trace_micro (s : State) (m : Micro) : (s.trace m).micro = m :: s.micro := rfl

/-! ### `setT` -/

@[simp] theorem State.setT_coef (s : State) (t : TCal) : (s.setT t).coef = { s.coef with t := t } := rfl
@[simp] theorem State.setT_sample (s : State) (t : TCal) : (s.setT t).sample = s.sample := rfl
@[simp] theorem State.setT_results (s : State) (t : TCal) : (s.setT t).results = s.results := rfl
@[simp] theorem State.setT_status (s : State) (t : TCal) : (s.setT t).status = s.status := rfl
@[simp] theorem State.setT_cause (s : State) (t : TCal) : (s.setT t).cause = s.cause := rfl
@[simp] theorem State.setT_inbox (s : State) (t : TCal) : (s.setT t).inbox = s.inbox := rfl
@[simp] theorem State.setT_outbox (s : State) (t : TCal) : (s.setT t).outbox = s.outbox := rfl
@[simp] theorem State.setT_scratch (s : State) (t : TCal) : (s.setT t).scratch = s.scratch := rfl
@[simp] theorem State.setT_micro (s : State) (t : TCal) : (s.setT t).micro = s.micro := rfl

/-! ### `setP` -/

@[simp] theorem State.setP_coef (s : State) (p : PCal) : (s.setP p).coef = { s.coef with p := p } := rfl
@[simp] theorem State.setP_sample (s : State) (p : PCal) : (s.setP p).sample = s.sample := rfl
@[simp] theorem State.setP_results (s : State) (p : PCal) : (s.setP p).results = s.results := rfl
@[simp] theorem State.setP_status (s : State) (p : PCal) : (s.setP p).status = s.status := rfl
@[simp] theorem State.setP_cause (s : State) (p : PCal) : (s.setP p).cause = s.cause := rfl
@[simp] theorem State.setP_inbox (s : State) (p : PCal) : (s.setP p).inbox = s.inbox := rfl
@[simp] theorem State.setP_outbox (s : State) (p : PCal) : (s.setP p).outbox = s.outbox := rfl
@[simp] theorem State.setP_scratch (s : State) (p : PCal) : (s.setP p).scratch = s.scratch := rfl
@[simp] theorem State.setP_micro (s : State) (p : PCal) : (s.setP p).micro = s.micro := rfl

/-! ### `setH` -/

@[simp] theorem State.setH_coef (s : State) (h : HCal) : (s.setH h).coef = { s.coef with h := h } := rfl
@[simp] theorem State.setH_sample (s : State) (h : HCal) : (s.setH h).sample = s.sample := rfl
@[simp] theorem State.setH_results (s : State) (h : HCal) : (s.setH h).results = s.results := rfl
@[simp] theorem State.setH_status (s : State) (h : HCal) : (s.setH h).status = s.status := rfl
@[simp] theorem State.setH_cause (s : State) (h : HCal) : (s.setH h).cause = s.cause := rfl
@[simp] theorem State.setH_inbox (s : State) (h : HCal) : (s.setH h).inbox = s.inbox := rfl
@[simp] theorem State.setH_outbox (s : State) (h : HCal) : (s.setH h).outbox = s.outbox := rfl
@[simp] theorem State.setH_scratch (s : State) (h : HCal) : (s.setH h).scratch = s.scratch := rfl
@[simp] theorem State.setH_micro (s : State) (h : HCal) : (s.setH h).micro = s.micro := rfl

/-! ### `loadSample` -/

@[simp] theorem State.loadSample_coef (s : State) (x : Sample) : (s.loadSample x).coef = s.coef := rfl
@[simp] theorem State.loadSample_sample (s : State) (x : Sample) : (s.loadSample x).sample = x := rfl
@[simp] theorem State.loadSample_results (s : State) (x : Sample) : (s.loadSample x).results = s.results := rfl
@[simp] theorem State.loadSample_status (s : State) (x : Sample) : (s.loadSample x).status = setFlags s.status smpMask := rfl
@[simp] theorem State.loadSample_cause (s : State) (x : Sample) : (s.loadSample x).cause = s.cause := rfl
@[simp] theorem State.loadSample_inbox (s : State) (x : Sample) : (s.loadSample x).inbox = s.inbox := rfl
@[simp] theorem State.loadSample_outbox (s : State) (x : Sample) : (s.loadSample x).outbox = s.outbox := rfl
@[simp] theorem State.loadSample_scratch (s : State) (x : Sample) : (s.loadSample x).scratch = s.scratch := rfl
@[simp] theorem State.loadSample_micro (s : State) (x : Sample) : (s.loadSample x).micro = s.micro := rfl

/-! ### `startSession` -/

@[simp] theorem State.startSession_coef (s : State) (c : Coef) : (s.startSession c).coef = c := rfl
@[simp] theorem State.startSession_sample (s : State) (c : Coef) : (s.startSession c).sample = s.sample := rfl
@[simp] theorem State.startSession_results (s : State) (c : Coef) : (s.startSession c).results = s.results := rfl
@[simp] theorem State.startSession_status (s : State) (c : Coef) : (s.startSession c).status = clearFlags (setFlags s.status calMask) outMask := rfl
@[simp] theorem State.startSession_cause (s : State) (c : Coef) : (s.startSession c).cause = s.cause := rfl
@[simp] theorem State.startSession_inbox (s : State) (c : Coef) : (s.startSession c).inbox = s.inbox := rfl
@[simp] theorem State.startSession_outbox (s : State) (c : Coef) : (s.startSession c).outbox = s.outbox := rfl
@[simp] theorem State.startSession_scratch (s : State) (c : Coef) : (s.startSession c).scratch = s.scratch := rfl
@[simp] theorem State.startSession_micro (s : State) (c : Coef) : (s.startSession c).micro = s.micro := rfl

/-! ### `storeResults` -/

@[simp] theorem State.storeResults_coef (s : State) (r : Results) : (s.storeResults r).coef = s.coef := rfl
@[simp] theorem State.storeResults_sample (s : State) (r : Results) : (s.storeResults r).sample = s.sample := rfl
@[simp] theorem State.storeResults_results (s : State) (r : Results) : (s.storeResults r).results = r := rfl
@[simp] theorem State.storeResults_status (s : State) (r : Results) : (s.storeResults r).status = setFlags s.status outMask := rfl
@[simp] theorem State.storeResults_cause (s : State) (r : Results) : (s.storeResults r).cause = s.cause := rfl
@[simp] theorem State.storeResults_inbox (s : State) (r : Results) : (s.storeResults r).inbox = s.inbox := rfl
@[simp] theorem State.storeResults_outbox (s : State) (r : Results) : (s.storeResults r).outbox = s.outbox := rfl
@[simp] theorem State.storeResults_scratch (s : State) (r : Results) : (s.storeResults r).scratch = s.scratch := rfl
@[simp] theorem State.storeResults_micro (s : State) (r : Results) : (s.storeResults r).micro = s.micro := rfl

/-! ### `restart` -/

@[simp] theorem State.restart_coef (s : State) : (s.restart).coef = Coef.reset := rfl
@[simp] theorem State.restart_sample (s : State) : (s.restart).sample = Sample.reset := rfl
@[simp] theorem State.restart_results (s : State) : (s.restart).results = Results.reset := rfl
@[simp] theorem State.restart_status (s : State) : (s.restart).status = 0 := rfl
@[simp] theorem State.restart_cause (s : State) : (s.restart).cause = 0 := rfl
@[simp] theorem State.restart_inbox (s : State) : (s.restart).inbox = s.inbox := rfl
@[simp] theorem State.restart_outbox (s : State) : (s.restart).outbox = s.outbox := rfl
@[simp] theorem State.restart_scratch (s : State) : (s.restart).scratch = Scratch.reset := rfl
@[simp] theorem State.restart_micro (s : State) : (s.restart).micro = [] := rfl

/-! ### `raise` -/

@[simp] theorem State.raise_coef (k : Cause) (s : State) : (s.raise k).coef = s.coef := by unfold State.raise; split <;> rfl
@[simp] theorem State.raise_sample (k : Cause) (s : State) : (s.raise k).sample = s.sample := by unfold State.raise; split <;> rfl
@[simp] theorem State.raise_results (k : Cause) (s : State) : (s.raise k).results = s.results := by unfold State.raise; split <;> rfl
@[simp] theorem State.raise_inbox (k : Cause) (s : State) : (s.raise k).inbox = s.inbox := by unfold State.raise; split <;> rfl
@[simp] theorem State.raise_scratch (k : Cause) (s : State) : (s.raise k).scratch = s.scratch := by unfold State.raise; split <;> rfl
@[simp] theorem State.raise_micro (k : Cause) (s : State) : (s.raise k).micro = s.micro := by unfold State.raise; split <;> rfl

end Sys2Proof.Machine
end

