-- ==== Sys2Proof/Laws/Ops.lean ====
section
/-! SUPPORT. For each shared operation, one lemma that says once everything it can do. -/

namespace Sys2Proof.Machine

/-- A one-byte read answers the byte at the index inside the block, and `BlockLength` outside (R52). -/
theorem memRead1_cases (b : Block) (i : Nat) :
    (∃ h : i < b.length, memRead1 b i = .ok b[i]) ∨ (b.length ≤ i ∧ memRead1 b i = .error .blockLength) := by
  unfold memRead1
  by_cases h : i < b.length
  · exact .inl ⟨h, by simp [h]⟩
  · exact .inr ⟨by omega, by rw [List.getElem?_eq_none (by omega)]⟩

/-- A two-byte read answers the bytes at the index and after it inside the block, and `BlockLength` outside (R52). -/
theorem memRead2_cases (b : Block) (i : Nat) :
    (∃ (h : i + 1 < b.length), memRead2 b i = .ok (b[i], b[i + 1])) ∨
      (b.length ≤ i + 1 ∧ memRead2 b i = .error .blockLength) := by
  unfold memRead2
  by_cases h : i + 1 < b.length
  · exact .inl ⟨h, by simp [h, show i < b.length by omega]⟩
  · exact .inr ⟨by omega, by rw [List.getElem?_eq_none (l := b) (i := i + 1) (by omega)]; split <;> simp_all⟩

/-- Fault entry with FAULTED = 0 (R247). -/
theorem raise_of_not_faulted {s : State} (h : s.faulted = false) (k : Cause) :
    s.raise k = { s with status := setFlags s.status faultedMask, cause := k.code, outbox := s.outbox ++ [.fault k] } := by
  simp [State.raise, h, State.setStatus, State.setCause, State.respond]

/-- Nothing is raised with FAULTED = 1 (R246). -/
theorem raise_of_faulted {s : State} (h : s.faulted = true) (k : Cause) :
    s.raise k = s.respond (.fault .faulted) := by
  simp [State.raise, h]

/-- The gate of R233: the refusal in the FAULTED state, the body otherwise. -/
theorem unlessFaulted_cases {s t : State} {body : StepResult} (h : unlessFaulted s body = .next t) :
    (s.faulted = true ∧ t = s.respond (.fault .faulted)) ∨ (s.faulted = false ∧ body = .next t) := by
  unfold unlessFaulted at h
  split at h
  · next hf => exact .inl ⟨hf, by injection h with h; exact h.symm⟩
  · next hf => exact .inr ⟨by simpa using hf, h⟩

theorem unlessFaulted_of_faulted {s : State} (h : s.faulted = true) (body : StepResult) :
    unlessFaulted s body = .next (s.respond (.fault .faulted)) := by
  simp [unlessFaulted, h]

theorem unlessFaulted_of_not_faulted {s : State} (h : s.faulted = false) (body : StepResult) :
    unlessFaulted s body = body := by
  simp [unlessFaulted, h]

/-- A micro-operation writes its value or raises the cause of its read; it never stops. -/
theorem latch_cases {α : Type} (value : Except Cause α) (s : State) (write : α → State) :
    (∃ v, value = .ok v ∧ latch value s write = .next (write v)) ∨
      (∃ k, value = .error k ∧ latch value s write = .next (s.raise k)) := by
  cases value with
  | ok v => exact .inl ⟨v, rfl, rfl⟩
  | error k => exact .inr ⟨k, rfl, rfl⟩

/-- A stage after the guard either is skipped or writes (R187). -/
theorem unlessSkipped_cases (s write : State) :
    (s.scratch.guardFired = true ∧ unlessSkipped s write = .next s) ∨
      (s.scratch.guardFired = false ∧ unlessSkipped s write = .next write) := by
  cases h : s.scratch.guardFired <;> simp [unlessSkipped, h]

/-- The fetch takes the first request off the list. -/
theorem fetch_cases (s : State) :
    (s.inbox = [] ∧ fetch s = none) ∨
      (∃ f rest, s.inbox = f :: rest ∧ fetch s = some (f, { s with inbox := rest })) := by
  unfold fetch
  cases h : s.inbox with
  | nil => exact .inl ⟨rfl, rfl⟩
  | cons f rest => exact .inr ⟨f, rest, rfl, rfl⟩

/-- The fetch of a trace takes its next entry. -/
theorem fetchMicro_cases (s : State) :
    (s.micro = [] ∧ fetchMicro s = none) ∨
      (∃ m rest, s.micro = m :: rest ∧ fetchMicro s = some (m, { s with micro := rest })) := by
  unfold fetchMicro
  cases h : s.micro with
  | nil => exact .inl ⟨rfl, rfl⟩
  | cons m rest => exact .inr ⟨m, rest, rfl, rfl⟩

/-- A frame runs what it decodes to, or is rejected. -/
theorem runFrame_cases (f : Frame) (s : State) :
    (∃ i, decode f = .ok i ∧ runFrame f s = exec i s) ∨ (∃ e, decode f = .error e ∧ runFrame f s = rejectFrame e s) := by
  unfold runFrame
  cases decode f with
  | ok i => exact .inl ⟨i, rfl, rfl⟩
  | error e => exact .inr ⟨e, rfl, rfl⟩

/-- A rejected frame that answers a next state is an unassigned command code. -/
theorem rejectFrame_next {e : DecodeError} {s t : State} (h : rejectFrame e s = .next t) :
    (∃ c, e = .illegalCommand c) ∧ t = s.raise .illegalCommand := by
  cases e with
  | illegalCommand c =>
    simp only [rejectFrame] at h
    injection h with h
    exact ⟨⟨c, rfl⟩, h.symm⟩
  | unassignedNumber c => simp [rejectFrame] at h
  | payloadShape c => simp [rejectFrame] at h

/-- Between commands, a step waits or runs the first request (R230). -/
theorem step_of_between {s : State} (h : s.micro = []) :
    (s.inbox = [] ∧ step s = .next s) ∨
      (∃ r rest, s.inbox = r :: rest ∧ step s = runFrame (.cmd8 r) { s with inbox := rest }) := by
  have hm : fetchMicro s = none := by simp [fetchMicro, h]
  rcases fetch_cases s with ⟨hi, hf⟩ | ⟨r, rest, hi, hf⟩
  · exact .inl ⟨hi, by simp [step, hm, hf, idle]⟩
  · exact .inr ⟨r, rest, hi, by simp [step, hm, hf]⟩

/-- Inside a command, a step runs its next part, or drops the trace in the FAULTED state. -/
theorem step_of_trace {s : State} {m : Micro} {rest : List Micro} (h : s.micro = m :: rest) :
    (s.faulted = true ∧ step s = .next { s with micro := [] }) ∨
      (s.faulted = false ∧ step s = runFrame (.micro m) { s with micro := rest }) := by
  cases hf : s.faulted <;> simp [step, fetchMicro, h, hf, dropMicro]

/-- No micro-operation and no stage decodes to an unassigned command. -/
theorem decodeMicro_ne_illegalCommand (m : Micro) (c : Byte) : decodeMicro m ≠ .error (.illegalCommand c) := by
  unfold decodeMicro
  split
  · split
    · simp
    · split <;> simp
  · split <;> simp

/-- Everything a step that answers a next state can have done: waited, run the decoded command of the first request, raised
`IllegalCommand`, run the decoded next part of a command under way, or dropped a trace. -/
theorem step_cases {s t : State} (h : step s = .next t) :
    (s.micro = [] ∧
      ((s.inbox = [] ∧ t = s) ∨
        (∃ r rest, s.inbox = r :: rest ∧
          ((∃ i, decode (.cmd8 r) = .ok i ∧ exec i { s with inbox := rest } = .next t) ∨
            (∃ c, decode (.cmd8 r) = .error (.illegalCommand c) ∧
              t = State.raise .illegalCommand { s with inbox := rest }))))) ∨
      (∃ m rest, s.micro = m :: rest ∧
        ((s.faulted = true ∧ t = { s with micro := [] }) ∨
          (s.faulted = false ∧ ∃ i, decode (.micro m) = .ok i ∧ exec i { s with micro := rest } = .next t))) := by
  cases hm : s.micro with
  | nil =>
    refine .inl ⟨rfl, ?_⟩
    rcases step_of_between hm with ⟨hi, hs⟩ | ⟨r, rest, hi, hs⟩
    · rw [hs] at h
      injection h with h
      exact .inl ⟨hi, h.symm⟩
    · refine .inr ⟨r, rest, hi, ?_⟩
      rw [hs] at h
      rcases runFrame_cases (.cmd8 r) { s with inbox := rest } with ⟨i, hd, hr⟩ | ⟨e, hd, hr⟩ <;> rw [hr] at h
      · exact .inl ⟨i, hd, hm ▸ h⟩
      · obtain ⟨⟨c, rfl⟩, ht⟩ := rejectFrame_next h
        exact .inr ⟨c, hd, hm ▸ ht⟩
  | cons m rest =>
    refine .inr ⟨m, rest, rfl, ?_⟩
    rcases step_of_trace hm with ⟨hf, hs⟩ | ⟨hf, hs⟩
    · rw [hs] at h
      injection h with h
      exact .inl ⟨hf, h.symm⟩
    · rw [hs] at h
      rcases runFrame_cases (.micro m) { s with micro := rest } with ⟨i, hd, hr⟩ | ⟨e, hd, hr⟩ <;> rw [hr] at h
      · exact .inr ⟨hf, i, hd, h⟩
      · obtain ⟨⟨c, rfl⟩, _⟩ := rejectFrame_next h
        exact absurd hd (decodeMicro_ne_illegalCommand m c)

end Sys2Proof.Machine
end

