-- ==== Sys2Proof/Laws/PerInstr.lean ====
section
/-! SUPPORT. A statement made of every instruction by itself: the frame of an instruction is a micro-operation's exactly
where its row reads a raw block (spec/30_encoding.md R70), and then it carries that block. -/

namespace Sys2Proof.Laws

/-- See the head of the file. -/
def BlockRows.Statement (i : Instr) : Prop :=
  match i.rowBlock with
  | some (b, _) => ∃ n, encode i = .micro (.blk n b)
  | none => ∀ n b, encode i ≠ .micro (.blk n b)

theorem BlockRows.reset : BlockRows.Statement .reset := fun _ _ h => nomatch h
theorem BlockRows.rdreg (idx : Byte) : BlockRows.Statement (.rdreg idx) := fun _ _ h => nomatch h
theorem BlockRows.decodeCal (b24 b1 b7 : Block) : BlockRows.Statement (.decodeCal b24 b1 b7) := fun _ _ h => nomatch h
theorem BlockRows.ldsample (p t h : BitVec 32) : BlockRows.Statement (.ldsample p t h) := fun _ _ h => nomatch h
theorem BlockRows.unpack (m : Block) : BlockRows.Statement (.unpack m) := fun _ _ h => nomatch h
theorem BlockRows.compensate : BlockRows.Statement .compensate := fun _ _ h => nomatch h
theorem BlockRows.decT1 (b : Block) : BlockRows.Statement (.decT1 b) := ⟨_, rfl⟩
theorem BlockRows.decT2 (b : Block) : BlockRows.Statement (.decT2 b) := ⟨_, rfl⟩
theorem BlockRows.decT3 (b : Block) : BlockRows.Statement (.decT3 b) := ⟨_, rfl⟩
theorem BlockRows.decP1 (b : Block) : BlockRows.Statement (.decP1 b) := ⟨_, rfl⟩
theorem BlockRows.decP2 (b : Block) : BlockRows.Statement (.decP2 b) := ⟨_, rfl⟩
theorem BlockRows.decP3 (b : Block) : BlockRows.Statement (.decP3 b) := ⟨_, rfl⟩
theorem BlockRows.decP4 (b : Block) : BlockRows.Statement (.decP4 b) := ⟨_, rfl⟩
theorem BlockRows.decP5 (b : Block) : BlockRows.Statement (.decP5 b) := ⟨_, rfl⟩
theorem BlockRows.decP6 (b : Block) : BlockRows.Statement (.decP6 b) := ⟨_, rfl⟩
theorem BlockRows.decP7 (b : Block) : BlockRows.Statement (.decP7 b) := ⟨_, rfl⟩
theorem BlockRows.decP8 (b : Block) : BlockRows.Statement (.decP8 b) := ⟨_, rfl⟩
theorem BlockRows.decP9 (b : Block) : BlockRows.Statement (.decP9 b) := ⟨_, rfl⟩
theorem BlockRows.decH1 (b : Block) : BlockRows.Statement (.decH1 b) := ⟨_, rfl⟩
theorem BlockRows.decH2 (b : Block) : BlockRows.Statement (.decH2 b) := ⟨_, rfl⟩
theorem BlockRows.decH3 (b : Block) : BlockRows.Statement (.decH3 b) := ⟨_, rfl⟩
theorem BlockRows.decH4 (b : Block) : BlockRows.Statement (.decH4 b) := ⟨_, rfl⟩
theorem BlockRows.decH5 (b : Block) : BlockRows.Statement (.decH5 b) := ⟨_, rfl⟩
theorem BlockRows.decH6 (b : Block) : BlockRows.Statement (.decH6 b) := ⟨_, rfl⟩
theorem BlockRows.unpP (m : Block) : BlockRows.Statement (.unpP m) := ⟨_, rfl⟩
theorem BlockRows.unpT (m : Block) : BlockRows.Statement (.unpT m) := ⟨_, rfl⟩
theorem BlockRows.unpH (m : Block) : BlockRows.Statement (.unpH m) := ⟨_, rfl⟩
theorem BlockRows.tVar1 : BlockRows.Statement .tVar1 := fun _ _ h => nomatch h
theorem BlockRows.tVar2 : BlockRows.Statement .tVar2 := fun _ _ h => nomatch h
theorem BlockRows.tFine : BlockRows.Statement .tFine := fun _ _ h => nomatch h
theorem BlockRows.tCenti : BlockRows.Statement .tCenti := fun _ _ h => nomatch h
theorem BlockRows.tFahr : BlockRows.Statement .tFahr := fun _ _ h => nomatch h
theorem BlockRows.pA1 : BlockRows.Statement .pA1 := fun _ _ h => nomatch h
theorem BlockRows.pB1 : BlockRows.Statement .pB1 := fun _ _ h => nomatch h
theorem BlockRows.pB2 : BlockRows.Statement .pB2 := fun _ _ h => nomatch h
theorem BlockRows.pB3 : BlockRows.Statement .pB3 := fun _ _ h => nomatch h
theorem BlockRows.pA2 : BlockRows.Statement .pA2 := fun _ _ h => nomatch h
theorem BlockRows.pDen : BlockRows.Statement .pDen := fun _ _ h => nomatch h
theorem BlockRows.pGuard : BlockRows.Statement .pGuard := fun _ _ h => nomatch h
theorem BlockRows.pQ1 : BlockRows.Statement .pQ1 := fun _ _ h => nomatch h
theorem BlockRows.pC1 : BlockRows.Statement .pC1 := fun _ _ h => nomatch h
theorem BlockRows.pC2 : BlockRows.Statement .pC2 := fun _ _ h => nomatch h
theorem BlockRows.pPa : BlockRows.Statement .pPa := fun _ _ h => nomatch h
theorem BlockRows.pHpa : BlockRows.Statement .pHpa := fun _ _ h => nomatch h
theorem BlockRows.hG : BlockRows.Statement .hG := fun _ _ h => nomatch h
theorem BlockRows.hA : BlockRows.Statement .hA := fun _ _ h => nomatch h
theorem BlockRows.hB : BlockRows.Statement .hB := fun _ _ h => nomatch h
theorem BlockRows.hC : BlockRows.Statement .hC := fun _ _ h => nomatch h
theorem BlockRows.hD : BlockRows.Statement .hD := fun _ _ h => nomatch h
theorem BlockRows.hE : BlockRows.Statement .hE := fun _ _ h => nomatch h
theorem BlockRows.hF : BlockRows.Statement .hF := fun _ _ h => nomatch h
theorem BlockRows.hClamp : BlockRows.Statement .hClamp := fun _ _ h => nomatch h

end Sys2Proof.Laws
end

