-- ==== Sys2Proof/Tests/Slice0.lean ====
section
/-! SUPPORT. The model's own tests: the decoding of every row, the vectors of spec/95_test_vectors.md on single steps,
the well-formedness checks, and a witness for the hypotheses of every statement. -/

namespace Sys2Proof.Tests

open Sys2Proof Sys2Proof.Machine Sys2Proof.Safety

/-! ### Helpers -/

/-- The next state of an outcome. -/
def after : StepResult → Option State
  | .next s => some s
  | _ => none

/-- A field of the next state of an outcome. -/
def see {α : Type} (r : StepResult) (f : State → α) : Option α := (after r).map f

/-- A decoded instruction. -/
def read (f : Frame) : Option Instr := (decode f).toOption

/-- WS's fixture blocks (95_test_vectors.md V1). -/
def cal1 : Block := [41, 111, 222, 102, 50, 0, 243, 140, 58, 214, 208, 11, 147, 34, 139, 255, 249, 255, 12, 48, 32, 209, 136, 19]
def cal2 : Block := [75]
def cal3 : Block := [77, 1, 0, 24, 45, 3, 30]
def meas : Block := [77, 82, 128, 130, 190, 0, 123, 250]

/-- The fixture record and sample (V1). -/
def fixture : Coef :=
  { t := ⟨28457, 26334, 50⟩,
    p := ⟨36083, BitVec.ofInt 16 (-10694), 3024, 8851, BitVec.ofInt 16 (-117), BitVec.ofInt 16 (-7), 12300,
      BitVec.ofInt 16 (-12000), 5000⟩,
    h := ⟨75, 333, 0, 397, 50, 30⟩ }
def fixtureSample : Sample := ⟨316712, 535520, 31738⟩

/-- A state ready to compensate the fixture. -/
def ready : State := { State.reset with coef := fixture, sample := fixtureSample, status := 0x03 }

/-- A state in which NotReady has been raised. -/
def stuck : State := { State.reset with status := 0x80, cause := 3 }

/-- A state inside a COMPENSATE of the fixture, with the values V1 gives (V1, the P and H rows). -/
def traced : State :=
  { ready with
    results := ⟨128936, 2518, 0, 0, 0⟩,
    scratch := { Scratch.reset with
      tv1 := 128918, tv2 := 18, a1 := 0x407D400000000000, b1 := 0xC04764F000000000, b2 := 0xC0FABF6C9E000000,
      b3 := 0x41C1494A8126C400, a2 := 0xC02316422D580000, a3 := 0x40E19D0FB6B5CC5B, q1 := 0x40F8F7CD6E133472,
      c1 := 0x40D7C7E3DBDAB00C, c2 := 0xC0E2497EF61F10E9, ppa := 0x40F8F4AD05D1A6AB, g := 0x40E9750000000000,
      hA := 0x40B81AE4C0000000, hB := 0x3FF0000000000000, hC := 0x3FF05F76C0000000, hD := 0x3F754C2D77C00000,
      hE := 0x40400B083D4E5206, hF := 0x403FF05CB2292D69 } }

/-! ### Decoding: the codes of R81, the numbers of R85 -/

theorem test_decode_reset : read (.cmd8 ⟨0b00000000, []⟩) = some .reset := by decide
theorem test_decode_rdreg : read (.cmd8 ⟨0b00000001, [[0x15]]⟩) = some (.rdreg 0x15) := by decide
theorem test_decode_decodeCal : read (.cmd8 ⟨0b00010000, [cal1, cal2, cal3]⟩) = some (.decodeCal cal1 cal2 cal3) := by decide
theorem test_decode_ldsample :
    read (.cmd8 ⟨0b00100000, [[0x00, 0x04, 0xD5, 0x28], [0x00, 0x08, 0x2B, 0xE0], [0x00, 0x00, 0x7B, 0xFA]]⟩) =
      some (.ldsample 316712 535520 31738) := by decide
theorem test_decode_unpack : read (.cmd8 ⟨0b00100001, [meas]⟩) = some (.unpack meas) := by decide
theorem test_decode_compensate : read (.cmd8 ⟨0b00110000, []⟩) = some .compensate := by decide
theorem test_decode_unassigned : decode (.cmd8 ⟨0x02, [[1, 2, 3]]⟩) = .error (.illegalCommand 0x02) := by rfl
theorem test_decode_payload_shape : decode (.cmd8 ⟨0x01, []⟩) = .error (.payloadShape 0x01) := by rfl
theorem test_decode_unassigned_stage : decode (.micro (.stg 0x25)) = .error (.unassignedNumber 0x25) := by rfl
theorem test_decode_block_width : decode (.micro (.blk 0x0C [1, 2])) = .error (.payloadShape 0x0C) := by rfl
theorem test_decode_decT1 : read (.micro (.blk 0x00 cal1)) = some (.decT1 cal1) := by decide
theorem test_decode_decT2 : read (.micro (.blk 0x01 cal1)) = some (.decT2 cal1) := by decide
theorem test_decode_decT3 : read (.micro (.blk 0x02 cal1)) = some (.decT3 cal1) := by decide
theorem test_decode_decP1 : read (.micro (.blk 0x03 cal1)) = some (.decP1 cal1) := by decide
theorem test_decode_decP2 : read (.micro (.blk 0x04 cal1)) = some (.decP2 cal1) := by decide
theorem test_decode_decP3 : read (.micro (.blk 0x05 cal1)) = some (.decP3 cal1) := by decide
theorem test_decode_decP4 : read (.micro (.blk 0x06 cal1)) = some (.decP4 cal1) := by decide
theorem test_decode_decP5 : read (.micro (.blk 0x07 cal1)) = some (.decP5 cal1) := by decide
theorem test_decode_decP6 : read (.micro (.blk 0x08 cal1)) = some (.decP6 cal1) := by decide
theorem test_decode_decP7 : read (.micro (.blk 0x09 cal1)) = some (.decP7 cal1) := by decide
theorem test_decode_decP8 : read (.micro (.blk 0x0A cal1)) = some (.decP8 cal1) := by decide
theorem test_decode_decP9 : read (.micro (.blk 0x0B cal1)) = some (.decP9 cal1) := by decide
theorem test_decode_decH1 : read (.micro (.blk 0x0C cal2)) = some (.decH1 cal2) := by decide
theorem test_decode_decH2 : read (.micro (.blk 0x0D cal3)) = some (.decH2 cal3) := by decide
theorem test_decode_decH3 : read (.micro (.blk 0x0E cal3)) = some (.decH3 cal3) := by decide
theorem test_decode_decH4 : read (.micro (.blk 0x0F cal3)) = some (.decH4 cal3) := by decide
theorem test_decode_decH5 : read (.micro (.blk 0x10 cal3)) = some (.decH5 cal3) := by decide
theorem test_decode_decH6 : read (.micro (.blk 0x11 cal3)) = some (.decH6 cal3) := by decide
theorem test_decode_unpP : read (.micro (.blk 0x12 meas)) = some (.unpP meas) := by decide
theorem test_decode_unpT : read (.micro (.blk 0x13 meas)) = some (.unpT meas) := by decide
theorem test_decode_unpH : read (.micro (.blk 0x14 meas)) = some (.unpH meas) := by decide
theorem test_decode_tVar1 : read (.micro (.stg 0b00100000)) = some .tVar1 := by decide
theorem test_decode_tVar2 : read (.micro (.stg 0b00100001)) = some .tVar2 := by decide
theorem test_decode_tFine : read (.micro (.stg 0b00100010)) = some .tFine := by decide
theorem test_decode_tCenti : read (.micro (.stg 0b00100011)) = some .tCenti := by decide
theorem test_decode_tFahr : read (.micro (.stg 0b00100100)) = some .tFahr := by decide
theorem test_decode_pA1 : read (.micro (.stg 0b00110000)) = some .pA1 := by decide
theorem test_decode_pB1 : read (.micro (.stg 0b00110001)) = some .pB1 := by decide
theorem test_decode_pB2 : read (.micro (.stg 0b00110010)) = some .pB2 := by decide
theorem test_decode_pB3 : read (.micro (.stg 0b00110011)) = some .pB3 := by decide
theorem test_decode_pA2 : read (.micro (.stg 0b00110100)) = some .pA2 := by decide
theorem test_decode_pDen : read (.micro (.stg 0b00110101)) = some .pDen := by decide
theorem test_decode_pGuard : read (.micro (.stg 0b00110110)) = some .pGuard := by decide
theorem test_decode_pQ1 : read (.micro (.stg 0b00110111)) = some .pQ1 := by decide
theorem test_decode_pC1 : read (.micro (.stg 0b00111000)) = some .pC1 := by decide
theorem test_decode_pC2 : read (.micro (.stg 0b00111001)) = some .pC2 := by decide
theorem test_decode_pPa : read (.micro (.stg 0b00111010)) = some .pPa := by decide
theorem test_decode_pHpa : read (.micro (.stg 0b00111011)) = some .pHpa := by decide
theorem test_decode_hG : read (.micro (.stg 0b01000000)) = some .hG := by decide
theorem test_decode_hA : read (.micro (.stg 0b01000001)) = some .hA := by decide
theorem test_decode_hB : read (.micro (.stg 0b01000010)) = some .hB := by decide
theorem test_decode_hC : read (.micro (.stg 0b01000011)) = some .hC := by decide
theorem test_decode_hD : read (.micro (.stg 0b01000100)) = some .hD := by decide
theorem test_decode_hE : read (.micro (.stg 0b01000101)) = some .hE := by decide
theorem test_decode_hF : read (.micro (.stg 0b01000110)) = some .hF := by decide
theorem test_decode_hClamp : read (.micro (.stg 0b01000111)) = some .hClamp := by decide

/-! ### Table words (log entry 20) -/

theorem test_table_rdreg : decodeTableWord 16 0x1501 = some (.rdreg 0x15) := by decide
theorem test_table_fine : decodeTableWord 8 0x22 = some .tFine := by decide
theorem test_table_block : decodeTableWord 192 0 = none := by decide
theorem test_table_runs :
    see (step (State.reset.withFetchWord 8 0x30)) (fun s => (s.status, s.cause)) = some (0x80, 3) := by decide

/-- The number of T.CENTI is no command code: a host that presents it is answered IllegalCommand (R70, R84). -/
theorem test_stage_not_issuable :
    see (step (ready.present ⟨0x23, []⟩)) (fun s => (s.cause, s.results, s.outbox)) =
      some (4, ready.results, [.fault .illegalCommand]) := by decide
theorem test_table_stage_runs : see (step (ready.withFetchWord 8 0x23)) (fun s => s.micro) = some [] := by decide
theorem test_trace_refused : see (step (stuck.trace (.stg 0x23))) (fun s => (s.micro, s.outbox)) = some ([], []) := by decide

/-! ### Well-formedness: a micro-operation's block of the wrong length is refused -/

theorem test_illformed_cal1 : (Instr.decT1 (cal1.take 23)).wellFormed = false := by decide
theorem test_illformed_cal2 : (Instr.decH1 [75, 75]).wellFormed = false := by decide
theorem test_illformed_cal3 : (Instr.decH4 (cal3.take 6)).wellFormed = false := by decide
theorem test_illformed_meas : (Instr.unpP (meas ++ [0])).wellFormed = false := by decide
theorem test_wellformed_cal1 : (Instr.decT1 cal1).wellFormed = true := by decide

/-! ### The calibration decoder (41_calibration_decoder.md, the examples of each rule) -/

theorem test_decT1 : see (exec (.decT1 cal1) State.reset) (·.coef.t.t1) = some (28457) := by decide
theorem test_decT2 : see (exec (.decT2 cal1) State.reset) (·.coef.t.t2) = some (26334) := by decide
theorem test_decT3 : see (exec (.decT3 cal1) State.reset) (·.coef.t.t3) = some (50) := by decide
theorem test_decP1 : see (exec (.decP1 cal1) State.reset) (·.coef.p.p1) = some (36083) := by decide
theorem test_decP2 : see (exec (.decP2 cal1) State.reset) (·.coef.p.p2) = some (BitVec.ofInt 16 (-10694)) := by decide
theorem test_decP3 : see (exec (.decP3 cal1) State.reset) (·.coef.p.p3) = some (3024) := by decide
theorem test_decP4 : see (exec (.decP4 cal1) State.reset) (·.coef.p.p4) = some (8851) := by decide
theorem test_decP5 : see (exec (.decP5 cal1) State.reset) (·.coef.p.p5) = some (BitVec.ofInt 16 (-117)) := by decide
theorem test_decP6 : see (exec (.decP6 cal1) State.reset) (·.coef.p.p6) = some (BitVec.ofInt 16 (-7)) := by decide
theorem test_decP7 : see (exec (.decP7 cal1) State.reset) (·.coef.p.p7) = some (12300) := by decide
theorem test_decP8 : see (exec (.decP8 cal1) State.reset) (·.coef.p.p8) = some (BitVec.ofInt 16 (-12000)) := by decide
theorem test_decP9 : see (exec (.decP9 cal1) State.reset) (·.coef.p.p9) = some (5000) := by decide
theorem test_decH1 : see (exec (.decH1 cal2) State.reset) (·.coef.h.h1) = some (75) := by decide
theorem test_decH2 : see (exec (.decH2 cal3) State.reset) (·.coef.h.h2) = some (333) := by decide
theorem test_decH3 : see (exec (.decH3 cal3) State.reset) (·.coef.h.h3) = some (0) := by decide
theorem test_decH4 : see (exec (.decH4 cal3) State.reset) (·.coef.h.h4) = some (397) := by decide
theorem test_decH5 : see (exec (.decH5 cal3) State.reset) (·.coef.h.h5) = some (50) := by decide
theorem test_decH6 : see (exec (.decH6 cal3) State.reset) (·.coef.h.h6) = some (30) := by decide
theorem test_decH4_negative :
    see (exec (.decH4 [0x4D, 0x01, 0x00, 0xE8, 0xA5, 0xFD, 0xE2]) State.reset) (·.coef.h.h4.toInt) = some (-379) := by
  decide
theorem test_decH5_negative :
    see (exec (.decH5 [0x4D, 0x01, 0x00, 0xE8, 0xA5, 0xFD, 0xE2]) State.reset) (·.coef.h.h5.toInt) = some (-38) := by
  decide
theorem test_decH3_unsigned : see (exec (.decH3 [0, 0, 200, 0, 0, 0, 0]) State.reset) (·.coef.h.h3.toNat) = some 200 := by
  decide
theorem test_decT1_short : see (exec (.decT1 [41]) State.reset) (fun s => (s.status, s.cause)) = some (0x80, 1) := by decide

/-- V1: DECODE_CAL of the fixture blocks. -/
theorem test_decodeCal : see (exec (.decodeCal cal1 cal2 cal3) State.reset) (fun s => (s.coef, s.status)) =
    some (fixture, 0x01) := by decide +kernel
/-- 95_test_vectors.md, length faults: (24, 1, 8). -/
theorem test_decodeCal_long : see (exec (.decodeCal cal1 cal2 (cal3 ++ [0])) ready) (fun s => (s.status, s.cause, s.outbox)) =
    some (0x83, 1, [.fault .blockLength]) := by decide

/-- R143: outside its precondition the function has no value. -/
theorem test_decodeCalibration_long : decodeCalibration (cal1 ++ [0]) cal2 cal3 = .error .blockLength ∧
    decodeCalibration cal1 (cal2 ++ [0]) cal3 = .error .blockLength ∧
    decodeCalibration cal1 cal2 (cal3 ++ [0]) = .error .blockLength := ⟨rfl, rfl, rfl⟩

/-! ### The raw sample (42_sample_unpack.md) -/

theorem test_unpP : see (exec (.unpP meas) State.reset) (·.sample.praw) = some 316712 := by decide
theorem test_unpT : see (exec (.unpT meas) State.reset) (·.sample.traw) = some 535520 := by decide
theorem test_unpH : see (exec (.unpH meas) State.reset) (·.sample.hraw) = some 31738 := by decide
theorem test_unpack : see (exec (.unpack [0x12, 0x34, 0x5F, 0x80, 0x00, 0x0F, 0xAB, 0xCD]) State.reset)
    (fun s => (s.sample, s.status)) = some (⟨74565, 524288, 43981⟩, 0x02) := by decide
theorem test_unpack_short : see (exec (.unpack (meas.take 7)) State.reset) (fun s => (s.status, s.cause)) =
    some (0x80, 1) := by decide
theorem test_ldsample : see (exec (.ldsample 1048575 1048575 65535) State.reset) (fun s => (s.sample, s.status)) =
    some (⟨1048575, 1048575, 65535⟩, 0x02) := by decide
theorem test_ldsample_wide : see (exec (.ldsample 0 0 65536) State.reset) (fun s => (s.sample, s.status, s.cause)) =
    some (Sample.reset, 0x80, 2) := by decide

/-! ### Temperature (43_temperature.md; V1 and R165) -/

theorem test_tVar1 : see (exec .tVar1 { ready with sample := ⟨0, 0, 0⟩ }) (·.scratch.tv1.toInt) = some (-731823) := by
  decide
theorem test_tVar2 : see (exec .tVar2 { ready with sample := ⟨0, 0, 0⟩ }) (·.scratch.tv2.toInt) = some 603 := by
  decide
theorem test_tFine : see (exec .tFine traced) (·.results.tfine.toInt) = some 128936 := by decide
theorem test_tCenti : see (exec .tCenti { traced with results := ⟨BitVec.ofInt 64 (-731220), 0, 0, 0, 0⟩ })
    (·.results.tcenti.toInt) = some (-14282) := by decide
theorem test_tFahr : see (exec .tFahr traced) (·.results.outF) = some 0x405354BC6A7EF9DB := by decide +kernel

/-! ### Pressure (44_pressure.md; V1) -/

theorem test_pA1 : see (exec .pA1 traced) (·.scratch.a1) = some 0x407D400000000000 := by decide +kernel
theorem test_pB1 : see (exec .pB1 traced) (·.scratch.b1) = some 0xC04764F000000000 := by decide +kernel
theorem test_pB2 : see (exec .pB2 traced) (·.scratch.b2) = some 0xC0FABF6C9E000000 := by decide +kernel
theorem test_pB3 : see (exec .pB3 traced) (·.scratch.b3) = some 0x41C1494A8126C400 := by decide +kernel
theorem test_pA2 : see (exec .pA2 traced) (·.scratch.a2) = some 0xC02316422D580000 := by decide +kernel
theorem test_pDen : see (exec .pDen traced) (·.scratch.a3) = some 0x40E19D0FB6B5CC5B := by decide +kernel
theorem test_pGuard : see (exec .pGuard traced) (·.scratch.guardFired) = some false := by decide +kernel
theorem test_pGuard_negative_zero :
    see (exec .pGuard { traced with scratch := { traced.scratch with a3 := 0x8000000000000000 } })
      (fun s => (s.scratch.guardFired, s.scratch.ppa)) = some (true, 0) := by decide
theorem test_pQ1 : see (exec .pQ1 traced) (·.scratch.q1) = some 0x40F8F7CD6E133472 := by decide +kernel
theorem test_pC1 : see (exec .pC1 traced) (·.scratch.c1) = some 0x40D7C7E3DBDAB00C := by decide +kernel
theorem test_pC2 : see (exec .pC2 traced) (·.scratch.c2) = some 0xC0E2497EF61F10E9 := by decide +kernel
theorem test_pPa : see (exec .pPa traced) (·.scratch.ppa) = some 0x40F8F4AD05D1A6AB := by decide +kernel
theorem test_pHpa : see (exec .pHpa traced) (·.results.outHpa) = some 0x408FF1814F20D556 := by decide +kernel

/-! ### Humidity (45_humidity.md; V1) -/

theorem test_hG : see (exec .hG traced) (·.scratch.g) = some 0x40E9750000000000 := by decide +kernel
theorem test_hA : see (exec .hA traced) (·.scratch.hA) = some 0x40B81AE4C0000000 := by decide +kernel
theorem test_hB : see (exec .hB traced) (·.scratch.hB) = some 0x3FF0000000000000 := by decide +kernel
theorem test_hC : see (exec .hC traced) (·.scratch.hC) = some 0x3FF05F76C0000000 := by decide +kernel
theorem test_hD : see (exec .hD traced) (·.scratch.hD) = some 0x3F754C2D77C00000 := by decide +kernel
theorem test_hE : see (exec .hE traced) (·.scratch.hE) = some 0x40400B083D4E5206 := by decide +kernel
theorem test_hF : see (exec .hF traced) (·.scratch.hF) = some 0x403FF05CB2292D69 := by decide +kernel
theorem test_hClamp : see (exec .hClamp traced) (·.results.outPct) = some 0x403FF05CB2292D69 := by decide +kernel
/-- R208: -0.0 is not below 0. -/
theorem test_hClamp_negative_zero :
    see (exec .hClamp { traced with scratch := { traced.scratch with hF := 0x8000000000000000 } }) (·.results.outPct) =
      some 0x8000000000000000 := by decide +kernel

/-! ### COMPENSATE, RESET, RDREG (46_commands.md; V1 and the table of commands and faults) -/

theorem test_compensate : see (exec .compensate ready) (fun s => (s.results, s.status)) =
    some (⟨128936, 2518, 0x405354BC6A7EF9DB, 0x408FF1814F20D556, 0x403FF05CB2292D69⟩, 0x07) := by decide +kernel
/-- The pressure table: P3 = 0, P2 = -32767 at TFINE = 1176576, where the guard does not fire. -/
theorem test_near_zero_denominator : pressure binary64 (defaultPress binary64) 1176576
    { fixture.p with p2 := BitVec.ofInt 16 (-32767), p3 := 0 } 316712 = 0x420FA298B438B5C1 := by decide +kernel
/-- The humidity table: HRAW = 45083 at TFINE = 128936 is clamped. -/
theorem test_humidity_clamped : humidity binary64 (defaultHum binary64) 128936 fixture.h 45083 = 0x4059000000000000 := by
  decide +kernel
theorem test_reset : see (exec .reset stuck) (fun s => (s.status, s.cause, s.outbox)) = some (0, 0, [.ok .none]) := by decide
theorem test_rdreg_signed :
    see (exec (.rdreg 0x0F) { ready with coef := { fixture with h := { fixture.h with h4 := BitVec.ofInt 12 (-379) } } })
      (·.outbox) = some [.ok (.image 0xFFFFFFFFFFFFFE85)] := by decide
theorem test_rdreg_bad : see (exec (.rdreg 0x17) State.reset) (fun s => (s.status, s.cause)) = some (0x80, 5) := by decide

/-! ### Witnesses: states and operands that meet the hypotheses of each statement -/

/-- Requests of a host, one unassigned. -/
theorem presentable_compensate : Presentable .compensate := fun _ h => nomatch h
theorem presentable_unassigned : Presentable ⟨0x02, [[1]]⟩ := fun _ h => nomatch h
theorem presentable_reset : Presentable .reset := fun _ h => nomatch h
theorem presentable_rdreg_status : Presentable (.rdreg 0x1E) := fun _ h => nomatch h
theorem presentable_rdreg_cause : Presentable (.rdreg 0x1F) := fun _ h => nomatch h

theorem witness_DecodeOfEncodeIsTheInstruction : (Instr.decP9 cal1).wellFormed = true := by decide

theorem witness_DecodedFrameIsTheEncoding : decode (.micro (.blk 0x0B cal1)) = .ok (.decP9 cal1) := by rfl

theorem witness_StepRunsTheDecodedInstruction :
    ((ready.present .compensate).micro = [] ∧ (ready.present .compensate).inbox = .compensate :: [] ∧
      decode (.cmd8 .compensate) = .ok .compensate) ∧
    (ready.micro = [] ∧ ready.inbox = []) ∧
    ((ready.trace (.stg 0x20)).micro = .stg 0x20 :: [] ∧ (ready.trace (.stg 0x20)).faulted = false ∧
      decode (.micro (.stg 0x20)) = .ok .tVar1) ∧
    ((stuck.trace (.stg 0x20)).micro = .stg 0x20 :: [] ∧ (stuck.trace (.stg 0x20)).faulted = true) :=
  ⟨⟨rfl, rfl, rfl⟩, ⟨rfl, rfl⟩, ⟨rfl, by decide, rfl⟩, rfl, by decide⟩

theorem witness_NoPartOfACommandIsIssuable :
    BetweenCommands ready ∧ BetweenCommands (ready.present .compensate) ∧
      (∃ t, step (ready.present .compensate) = .next t) ∧
      ∀ n ∈ [0x22, 0x24, 0x31, 0x3B, 0x40, (0x47 : Byte)],
        (∃ i, decode (.micro (.stg n)) = .ok i) ∧ n ≠ 0x20 ∧ n ≠ 0x21 ∧ n ≠ 0x30 := by
  refine ⟨rfl, rfl, ⟨_, rfl⟩, fun n hn => ?_⟩
  simp only [List.mem_cons, List.not_mem_nil, or_false] at hn
  rcases hn with rfl | rfl | rfl | rfl | rfl | rfl <;> exact ⟨⟨_, rfl⟩, by decide, by decide, by decide⟩

/-- A step between commands, for each request that writes a group. -/
theorem witness_GroupsAreWrittenAsAWhole :
    ∀ r ∈ [.decodeCal cal1 cal2 cal3, .ldsample 1 2 3, .unpack meas, .compensate, Request.reset],
      BetweenCommands (ready.present r) ∧ ∃ t, step (ready.present r) = .next t := by
  intro r hr
  simp only [List.mem_cons, List.not_mem_nil, or_false] at hr
  rcases hr with rfl | rfl | rfl | rfl | rfl <;> exact ⟨rfl, _, rfl⟩

theorem witness_UnassignedCodesFaultIllegalCommand :
    (∀ c ∈ [0x02, 0x0F, 0x11, 0x1F, 0x22, 0x2F, 0x31, (0xFF : Byte)],
      0x02 ≤ c.toNat ∧ c.toNat ≤ 0x0F ∨ 0x11 ≤ c.toNat ∧ c.toNat ≤ 0x1F ∨ 0x22 ≤ c.toNat ∧ c.toNat ≤ 0x2F ∨
        0x31 ≤ c.toNat) ∧
      (ready.present ⟨0xFF, [[1]]⟩).micro = [] ∧
      (ready.present ⟨0xFF, [[1]]⟩).inbox = ⟨0xFF, [[1]]⟩ :: [] ∧
      (ready.present ⟨0xFF, [[1]]⟩).faulted = false ∧ (stuck.present ⟨0x02, []⟩).faulted = true := by
  refine ⟨by decide, rfl, rfl, by decide, by decide⟩

theorem witness_RunIsTheLeftFold :
    (∀ f ∈ [Request.compensate, ⟨0x02, [[1]]⟩], Presentable f) ∧ ready.micro = [] ∧ ready.inbox = [] := by
  refine ⟨fun f hf => ?_, rfl, rfl⟩
  rcases List.mem_cons.mp hf with rfl | hf
  · exact presentable_compensate
  · rw [List.mem_singleton.mp hf]
    exact presentable_unassigned

theorem witness_PresentableRequestsNeverStop :
    BetweenCommands (ready.present .compensate) ∧ AllPresentable (ready.present .compensate) := by
  refine ⟨rfl, fun f hf => ?_⟩
  rw [List.mem_singleton.mp hf]
  exact presentable_compensate

theorem witness_BlockPrimitivesReadTheirBytes :
    0 + 1 < ([0x00, 0x80] : Block).length ∧ ([0x00, 0x80] : Block).length < 1 + 2 ∧
      1 < ([0x00, 0x80] : Block).length ∧ ([0x00, 0x80] : Block).length ≤ 2 := by decide

theorem witness_SignExtensionAndNibbles :
    (-128 ≤ (-128 : Int) ∧ (-128 : Int) ≤ 127) ∧ (-128 ≤ (127 : Int) ∧ (127 : Int) ≤ 127) ∧
      (-2048 ≤ (-2048 : Int) ∧ (-2048 : Int) ≤ 2047) ∧ (-2048 ≤ (2047 : Int) ∧ (2047 : Int) ≤ 2047) := by decide

theorem witness_PackedFieldsAgreeInAllForms : 5 < (cal3.take 6).length := by decide

/-- The clauses of `TakesField` at their boundary: a block that ends with the field, and one that ends before it. -/
theorem witness_Cal1MicroOperationsTakeTheirFields : 1 < (cal1.take 2).length ∧ (cal1.take 1).length ≤ 1 ∧
    23 < cal1.length ∧ (cal1.take 23).length ≤ 23 := by decide

theorem witness_HumidityMicroOperationsTakeTheirFields : 0 < cal2.length ∧ ([] : Block).length ≤ 0 ∧
    6 < cal3.length ∧ (cal3.take 6).length ≤ 6 := by decide

theorem witness_UnpackMicroOperationsTakeTheirFields : 2 < (meas.take 3).length ∧ (meas.take 2).length ≤ 2 ∧
    7 < meas.length ∧ (meas.take 7).length ≤ 7 := by decide

theorem witness_DecodeCalStartsASession :
    stuck.faulted = true ∧ ready.faulted = false ∧
      ((cal1.take 23).length ≠ 24 ∨ cal2.length ≠ 1 ∨ cal3.length ≠ 7) ∧
      (cal1.length ≠ 24 ∨ ([] : Block).length ≠ 1 ∨ cal3.length ≠ 7) ∧
      (cal1.length ≠ 24 ∨ cal2.length ≠ 1 ∨ (cal3 ++ [0]).length ≠ 7) ∧
      cal1.length = 24 ∧ cal2.length = 1 ∧ cal3.length = 7 := by decide

theorem witness_DecodeCalibrationIsTotalAndInjective :
    cal1.length = 24 ∧ cal2.length = 1 ∧ cal3.length = 7 ∧
      decodeCalibration cal1 cal2 cal3 = decodeCalibration cal1 cal2 cal3 ∧
      ((cal1 ++ [0]).length ≠ 24 ∨ cal2.length ≠ 1 ∨ cal3.length ≠ 7) :=
  ⟨rfl, rfl, rfl, rfl, .inl (by decide)⟩

theorem witness_DecMicroOperationsInAnyOrder :
    cal1.length = 24 ∧ cal2.length = 1 ∧ cal3.length = 7 ∧
      (decOps cal1 cal2 cal3).reverse.Perm (decOps cal1 cal2 cal3) := ⟨rfl, rfl, rfl, List.reverse_perm _⟩

theorem witness_LdsampleLoadsOrFaults :
    stuck.faulted = true ∧ ready.faulted = false ∧ 1048576 ≤ (1048576 : BitVec 32).toNat ∧
      65536 ≤ (65536 : BitVec 32).toNat ∧ (1048575 : BitVec 32).toNat < 1048576 ∧
      (65535 : BitVec 32).toNat < 65536 := by decide

theorem witness_UnpackLoadsOrFaults :
    stuck.faulted = true ∧ ready.faulted = false ∧ (meas.take 7).length ≠ 8 ∧ (meas ++ [0]).length ≠ 8 ∧
      meas.length = 8 := by decide

theorem witness_UnpackSampleIsOnto :
    meas.length = 8 ∧ (meas ++ [0]).length ≠ 8 ∧ (0x80 : Byte) >>> 4 = (0x8F : Byte) >>> 4 ∧ (0x00 : Byte) >>> 4 = (0x0F : Byte) >>> 4 := by decide

theorem witness_TemperatureStagesComplete :
    (-(2 : Int) ^ 60 ≤ (BitVec.ofInt 64 (-(2 : Int) ^ 60)).toInt ∧ (BitVec.ofInt 64 (-(2 : Int) ^ 60)).toInt ≤ 2 ^ 60) ∧
      (-(2 : Int) ^ 60 ≤ (BitVec.ofInt 64 ((2 : Int) ^ 60)).toInt ∧
        (BitVec.ofInt 64 ((2 : Int) ^ 60)).toInt ≤ 2 ^ 60) := by decide

theorem witness_ConversionIsExact : (-(2 : Int) ^ 53).natAbs ≤ 2 ^ 53 ∧ ((2 : Int) ^ 53).natAbs ≤ 2 ^ 53 := by
  decide

/-- 1.0 and -1.0, whose sum is zero, and 1.0 and 1.0, whose difference is. -/
theorem witness_OperationsAreCorrectlyRounded :
    Binary64.isFinite lit1 = true ∧ Binary64.isFinite 0xBFF0000000000000#64 = true ∧ Binary64.scaled lit1 ≠ 0 ∧
      Binary64.scaled lit1 + Binary64.scaled 0xBFF0000000000000#64 = 0 ∧
      Binary64.scaled lit1 - Binary64.scaled lit1 = 0 := by decide +kernel

theorem witness_ComparisonsOfZerosAndNaNs : Binary64.isNaN 0x7FF0000000000001#64 = true := by decide

theorem witness_PressureStagesComplete : traced.scratch.guardFired = false ∧
    { traced with scratch := { traced.scratch with guardFired := true } }.scratch.guardFired = true := by decide

theorem witness_GuardHoldsForEveryPressFn : State.reset.scratch.a3 = 0x0000000000000000#64 ∧
    { traced with scratch := { traced.scratch with a3 := 0x8000000000000000#64 } }.scratch.a3 = 0x8000000000000000#64 ∧
    traced.scratch.a3 ≠ 0x0000000000000000#64 ∧ traced.scratch.a3 ≠ 0x8000000000000000#64 := by decide

theorem witness_ZeroP1GivesZeroPressure : { fixture with p := { fixture.p with p1 := 0 } }.p.p1 = 0 := rfl

/-- A NaN; the values next above 100 and next below 0; 100 and -0.0 themselves. -/
theorem witness_ClampHoldsForEveryHumFn :
    Binary64.isNaN 0x7FF8000000000000#64 = true ∧
      (Binary64.isNaN 0x4059000000000001#64 = false ∧ 100 * 2 ^ 1074 < Binary64.scaled 0x4059000000000001#64) ∧
      (Binary64.isNaN 0x8000000000000001#64 = false ∧ Binary64.scaled 0x8000000000000001#64 < 0) ∧
      (0 ≤ Binary64.scaled lit100 ∧ Binary64.scaled lit100 ≤ 100 * 2 ^ 1074) ∧
      (0 ≤ Binary64.scaled 0x8000000000000000#64 ∧ Binary64.scaled 0x8000000000000000#64 ≤ 100 * 2 ^ 1074) := by
  decide +kernel

theorem witness_CompensateStoresTheResults :
    stuck.faulted = true ∧ ready.faulted = false ∧ ready.calValid = true ∧ ready.smpValid = true ∧
      { ready with status := 0x01 }.smpValid = false ∧ { ready with status := 0x01 }.faulted = false ∧
      { ready with status := 0x02 }.calValid = false ∧ { ready with status := 0x02 }.faulted = false := by decide

/-- Every stage of a list has the stages it needs among those before it or those already seen. -/
def needsMet (seen : List Instr) : List Instr → Bool
  | [] => true
  | x :: rest => (stageNeeds x).all (seen.contains ·) && needsMet (x :: seen) rest

theorem needsMet_spec (l : List Instr) : ∀ seen, needsMet seen l = true → ∀ before x later, l = before ++ x :: later →
    ∀ y ∈ stageNeeds x, y ∈ before ∨ y ∈ seen := by
  induction l with
  | nil => intro _ _ before x later h; simp at h
  | cons a rest ih =>
    intro seen h before x later hl y hy
    simp only [needsMet, Bool.and_eq_true, List.all_eq_true] at h
    cases before with
    | nil =>
      injection hl with hx _
      exact .inr (by simpa using h.1 y (hx ▸ hy))
    | cons b before =>
      injection hl with hb hl
      rcases ih (a :: seen) h.2 before x later hl y hy with h' | h'
      · exact .inl (List.mem_cons_of_mem _ h')
      · rcases List.mem_cons.mp h' with rfl | h'
        · exact .inl (hb ▸ List.mem_cons_self)
        · exact .inr h'

theorem respectsNeeds_of_check {l : List Instr} (h : needsMet [] l = true) : RespectsNeeds l := by
  intro before x later hl y hy
  rcases needsMet_spec l [] h before x later hl y hy with h | h
  · exact h
  · cases h

/-- Humidity before pressure, and T.VAR2 before T.VAR1. -/
def otherOrder : List Instr :=
  [.tVar2, .tVar1, .tFine] ++ [.hG, .hA, .hB, .hC, .hD, .hE, .hF, .hClamp] ++ [.tCenti, .tFahr] ++
    [.pA1, .pB1, .pB2, .pB3, .pA2, .pDen, .pGuard, .pQ1, .pC1, .pC2, .pPa, .pHpa]

theorem witness_StagesInAnyOrderAreCompensate :
    (stageOrder.Perm stageOrder ∧ RespectsNeeds stageOrder) ∧ (otherOrder.Perm stageOrder ∧ RespectsNeeds otherOrder) :=
  ⟨⟨.refl _, respectsNeeds_of_check (by decide)⟩, ⟨by decide, respectsNeeds_of_check (by decide)⟩⟩

theorem witness_CompensateDependsOnRecordAndSampleOnly :
    ready.faulted = false ∧ traced.faulted = false ∧ ready.calValid = true ∧ traced.calValid = true ∧
      ready.smpValid = true ∧ traced.smpValid = true ∧ ready.coef = traced.coef ∧ ready.sample = traced.sample ∧
      (∃ s', exec .compensate ready = .next s') ∧ (∃ t', exec .compensate traced = .next t') :=
  ⟨by decide, by decide, by decide, by decide, by decide, by decide, rfl, rfl, ⟨_, rfl⟩, ⟨_, rfl⟩⟩

theorem witness_NothingIsReadableAfterReset : (0x00 : Byte).toNat ≤ 0x1A ∧ (0x00 : Byte) ≠ 0x17 ∧
    (0x1A : Byte).toNat ≤ 0x1A ∧ (0x1A : Byte) ≠ 0x17 := by decide

theorem witness_RdregAnswersRefusesOrFaults :
    stuck.faulted = true ∧ (0x1D : Byte) ≠ 0x1E ∧ (0x20 : Byte) ≠ 0x1F ∧ State.reset.faulted = false ∧
      (∀ idx ∈ [0x17, 0x1B, 0x1D, 0x20, (0xFF : Byte)],
        idx = 0x17 ∨ 0x1B ≤ idx.toNat ∧ idx.toNat ≤ 0x1D ∨ 0x20 ≤ idx.toNat) ∧
      (∀ idx ∈ [0x00, 0x11, 0x12, 0x14, 0x15, (0x1A : Byte)],
        idx.toNat ≤ 0x11 ∧ State.reset.calValid = false ∨
          0x12 ≤ idx.toNat ∧ idx.toNat ≤ 0x14 ∧ State.reset.smpValid = false ∨
          (idx = 0x15 ∨ idx = 0x16 ∨ idx = 0x18 ∨ idx = 0x19 ∨ idx = 0x1A) ∧ State.reset.outValid = false) ∧
      { ready with status := 0x07 }.faulted = false ∧ { ready with status := 0x07 }.calValid = true ∧
      { ready with status := 0x07 }.smpValid = true ∧ { ready with status := 0x07 }.outValid = true := by decide

theorem witness_FaultEntryWritesFaultedAndCauseOnly :
    State.reset.faulted = false ∧ (State.reset.present .compensate).micro = [] ∧ (State.reset.present .compensate).inbox = Request.compensate :: [] ∧
      ∃ t, step (State.reset.present .compensate) = .next t ∧ t.faulted = true :=
  ⟨by decide, rfl, rfl, _, rfl, by decide⟩

theorem witness_FaultedRefusesAllButResetAndStatus :
    stuck.faulted = true ∧ (stuck.present .compensate).micro = [] ∧ (stuck.present .compensate).inbox = Request.compensate :: [] ∧
      Presentable .compensate ∧ Presentable .reset ∧ Presentable (.rdreg 0x1E) ∧
      Presentable (.rdreg 0x1F) ∧ Request.compensate ≠ .reset ∧
      Request.compensate ≠ .rdreg 0x1E ∧ Request.compensate ≠ .rdreg 0x1F :=
  ⟨by decide, rfl, rfl, presentable_compensate, presentable_reset, presentable_rdreg_status, presentable_rdreg_cause,
    by decide, by decide, by decide⟩

theorem witness_OnlyResetLeavesTheFaultedState :
    (stuck.present .reset).faulted = true ∧ (∃ t, step (stuck.present .reset) = .next t) ∧
      (∃ t, step (stuck.present .compensate) = .next t) := ⟨by decide, ⟨_, rfl⟩, ⟨_, rfl⟩⟩

theorem witness_ControlInvariantIsKept :
    ControlOk (ready.present .compensate) ∧ ∃ t, step (ready.present .compensate) = .next t :=
  ⟨by unfold ControlOk; decide, _, rfl⟩

/-- A state whose valid results are those of its record and sample. -/
def done : State := { ready with status := 0x07, results := compensate defaultParams fixture fixtureSample }

theorem witness_CurrentResultsAreKept :
    BetweenCommands (done.present .compensate) ∧ ResultsCurrent (done.present .compensate) ∧
      done.outValid = true ∧ ∃ t, step (done.present .compensate) = .next t :=
  ⟨rfl, fun _ => ⟨fixtureSample, rfl⟩, by decide, _, rfl⟩

/-- Two states that differ in the record and the results, which hold no value, and in the trace scratch. -/
theorem witness_UnwrittenRegistersAreUnobservable :
    let s : State := { (State.reset.present .compensate) with status := 0x02 }
    let t : State := { s with coef := fixture, results := ⟨1, 2, 3, 4, 5⟩, scratch := traced.scratch }
    BetweenCommands s ∧ SameVisible s t ∧ ∃ s', step s = .next s' :=
  ⟨rfl,
    ⟨rfl, rfl, rfl, rfl, rfl, fun h => absurd h (by decide), fun _ => rfl, fun h => absurd h (by decide)⟩, _, rfl⟩

end Sys2Proof.Tests
end

section
/-! PROOFS. What a block read gives: each read is one value wherever the block reaches past the read's last byte, and
`BlockLength` on a shorter block (spec/20_memory.md R52). -/

namespace Sys2Proof.Proofs

open Sys2Proof Sys2Proof.Machine Sys2Proof.Safety

/-- The result of a read whose last byte stands at index `last`: its value inside the block, `BlockLength` outside.
Every reader of the model is one of these, by the equations below. -/
def inBlock {α : Type} (b : Block) (last : Nat) (x : α) : Except Cause α :=
  if last < b.length then .ok x else .error .blockLength

theorem inBlock_cases {α : Type} (b : Block) (last : Nat) (x : α) :
    inBlock b last x = .ok x ∨ inBlock b last x = .error .blockLength := by
  unfold inBlock
  split
  · exact .inl rfl
  · exact .inr rfl

theorem map_inBlock {α β : Type} (f : α → β) (b : Block) (last : Nat) (x : α) :
    (inBlock b last x).map f = inBlock b last (f x) := by
  unfold inBlock
  split <;> rfl

/-! ### The readers -/

theorem memRead1_eq (b : Block) (i : Nat) : memRead1 b i = inBlock b i (byteAt b i) := by
  rcases memRead1_cases b i with ⟨h, hr⟩ | ⟨h, hr⟩
  · simp [hr, inBlock, byteAt, h]
  · simp [hr, inBlock, h]

theorem memRead2_eq (b : Block) (i : Nat) : memRead2 b i = inBlock b (i + 1) (byteAt b i, byteAt b (i + 1)) := by
  rcases memRead2_cases b i with ⟨h, hr⟩ | ⟨h, hr⟩
  · simp [hr, inBlock, byteAt, h, Nat.lt_of_succ_lt h]
  · simp [hr, inBlock, h]

theorem toNat_word16 (b : Block) (i : Nat) :
    (word16 b i).toNat = (byteAt b i).toNat + 256 * (byteAt b (i + 1)).toNat := by
  rw [word16, BitVec.toNat_append, ← Nat.shiftLeft_add_eq_or_of_lt (byteAt b i).isLt, Nat.shiftLeft_eq]
  omega

theorem unsigned16_eq (b : Block) (i : Nat) : unsigned16 b i = inBlock b (i + 1) ((word16 b i).toNat : Int) := by
  rw [unsigned16, memRead2_eq]
  by_cases h : i + 1 < b.length <;> simp [inBlock, h, toNat_word16]

/-- `as_signed_N` of an unsigned pattern is its two's-complement value (R8). -/
theorem asSigned_toNat {n : Nat} (x : BitVec (n + 1)) : asSigned (n + 1) (x.toNat : Int) = x.toInt := by
  have hpow : (2 : Int) ^ (n + 1) = 2 * 2 ^ n := by ring
  have hcast : ((2 ^ (n + 1) : Nat) : Int) = 2 * 2 ^ n := by push_cast; ring
  have hlt : (x.toNat : Int) < 2 ^ n ↔ 2 * x.toNat < 2 ^ (n + 1) := by zify; rw [hpow]; omega
  rw [asSigned, BitVec.toInt_eq_toNat_cond, hcast, hpow, Nat.add_sub_cancel]
  simp only [hlt]

theorem signed16_eq (b : Block) (i : Nat) : signed16 b i = inBlock b (i + 1) (word16 b i).toInt := by
  rw [signed16, unsigned16_eq, map_inBlock, asSigned_toNat]

theorem unsigned8_eq (b : Block) (i : Nat) : unsigned8 b i = inBlock b i ((byteAt b i).toNat : Int) := by
  have hmask : byteAt b i &&& 0xFF#8 = byteAt b i := BitVec.and_allOnes
  rw [unsigned8, memRead1_eq, map_inBlock, hmask]

theorem signed8_eq (b : Block) (i : Nat) : signed8 b i = inBlock b i (byteAt b i).toInt := by
  rw [signed8, memRead1_eq, map_inBlock, asSigned_toNat]

/-! ### The fields that fill a register of their own width -/

theorem toReg_inBlock (n : Nat) (b : Block) (last : Nat) (v : Int) :
    toReg n (inBlock b last v) = inBlock b last (BitVec.ofInt n v) :=
  map_inBlock _ b last v

theorem toReg_unsigned16 (b : Block) (i : Nat) : toReg 16 (unsigned16 b i) = inBlock b (i + 1) (word16 b i) := by
  rw [unsigned16_eq, toReg_inBlock, BitVec.ofInt_natCast, BitVec.ofNat_toNat, BitVec.setWidth_eq]

theorem toReg_signed16 (b : Block) (i : Nat) : toReg 16 (signed16 b i) = inBlock b (i + 1) (word16 b i) := by
  rw [signed16_eq, toReg_inBlock, BitVec.ofInt_toInt]

theorem toReg_unsigned8 (b : Block) (i : Nat) : toReg 8 (unsigned8 b i) = inBlock b i (byteAt b i) := by
  rw [unsigned8_eq, toReg_inBlock, BitVec.ofInt_natCast, BitVec.ofNat_toNat, BitVec.setWidth_eq]

theorem toReg_signed8 (b : Block) (i : Nat) : toReg 8 (signed8 b i) = inBlock b i (byteAt b i) := by
  rw [signed8_eq, toReg_inBlock, BitVec.ofInt_toInt]

/-! ### H4 and H5, whose bits are spread over two bytes (R104 to R106, R138, R139) -/

theorem ofInt_sext12 (x : Int) : BitVec.ofInt 12 (sext12 x) = BitVec.ofInt 12 x := by
  apply BitVec.eq_of_toNat_eq
  simp only [BitVec.toNat_ofInt, sext12]
  split <;> omega

theorem ofInt_toInt_low12 (x : BitVec 32) : BitVec.ofInt 12 x.toInt = x.setWidth 12 :=
  BitVec.signExtend_eq_setWidth_of_le x (by omega)

/-- On a signed byte the shift sequence leaves, in its low 12 bits, the byte above a zero nibble (R104). -/
theorem hi8To12_low12 (x : Byte) : (hi8To12 x.toInt).setWidth 12 = x ++ 0#4 := by
  have hx : BitVec.ofInt 32 x.toInt = x.signExtend 32 := rfl
  rw [hi8To12, hx]
  apply BitVec.eq_of_getLsbD_eq
  intro i hi
  rw [BitVec.getLsbD_append, BitVec.getLsbD_setWidth, BitVec.getLsbD_sshiftRight, BitVec.getLsbD_shiftLeft]
  interval_cases i <;> simp [BitVec.getElem_signExtend]

theorem lowNibble_low12 (y : Byte) : (lowNibble y.toInt).setWidth 12 = (y.extractLsb' 0 4).setWidth 12 := by
  have hy : BitVec.ofInt 32 y.toInt = y.signExtend 32 := rfl
  rw [lowNibble, hy]
  ext i hi
  interval_cases i <;> simp [BitVec.getElem_signExtend]

theorem highNibble_low12 (y : Byte) : (highNibble (y.toNat : Int)).setWidth 12 = (y.extractLsb' 4 4).setWidth 12 := by
  have hy : BitVec.ofInt 32 (y.toNat : Int) = y.setWidth 32 := by simp
  rw [highNibble, hy]
  ext i hi
  interval_cases i <;> simp

theorem append_zero_or_setWidth (x : Byte) (n : BitVec 4) : (x ++ 0#4) ||| n.setWidth 12 = x ++ n := by
  apply BitVec.eq_of_getLsbD_eq
  intro i hi
  rw [BitVec.getLsbD_or, BitVec.getLsbD_append, BitVec.getLsbD_append]
  by_cases h : i < 4
  · simp [h, hi]
  · simp [h, BitVec.getLsbD_of_ge n i (by omega)]

theorem toReg_fieldH4 (b : Block) :
    toReg 12 (fieldH4 b) = inBlock b 4 (byteAt b 3 ++ (byteAt b 4).extractLsb' 0 4) := by
  have hbits : BitVec.ofInt 12 (sext12 (hi8To12 (byteAt b 3).toInt ||| lowNibble (byteAt b 4).toInt).toInt) =
      byteAt b 3 ++ (byteAt b 4).extractLsb' 0 4 := by
    rw [ofInt_sext12, ofInt_toInt_low12, BitVec.setWidth_or, hi8To12_low12, lowNibble_low12, append_zero_or_setWidth]
  have hfield : fieldH4 b =
      inBlock b 4 (sext12 (hi8To12 (byteAt b 3).toInt ||| lowNibble (byteAt b 4).toInt).toInt) := by
    rw [fieldH4, signed8_eq, signed8_eq]
    unfold inBlock
    split_ifs
    · rfl
    · rfl
    · omega
    · rfl
  rw [hfield, toReg_inBlock, hbits]

theorem toReg_fieldH5 (b : Block) :
    toReg 12 (fieldH5 b) = inBlock b 5 (byteAt b 5 ++ (byteAt b 4).extractLsb' 4 4) := by
  have hbits : BitVec.ofInt 12 (sext12 (hi8To12 (byteAt b 5).toInt ||| highNibble (byteAt b 4).toNat).toInt) =
      byteAt b 5 ++ (byteAt b 4).extractLsb' 4 4 := by
    rw [ofInt_sext12, ofInt_toInt_low12, BitVec.setWidth_or, hi8To12_low12, highNibble_low12, append_zero_or_setWidth]
  have hfield : fieldH5 b =
      inBlock b 5 (sext12 (hi8To12 (byteAt b 5).toInt ||| highNibble (byteAt b 4).toNat).toInt) := by
    rw [fieldH5, signed8_eq, unsigned8_eq]
    unfold inBlock
    split_ifs
    · rfl
    · omega
    · rfl
    · rfl
  rw [hfield, toReg_inBlock, hbits]

/-! ### The fields of MEAS (R74, R77) -/

/-- The shift form of a 20-bit field is the upper 20 bits of its three bytes. -/
theorem pack20_eq_append (m l x : Byte) : pack20 m l x = m ++ l ++ x.extractLsb' 4 4 := by
  apply BitVec.eq_of_getLsbD_eq
  intro i hi
  rw [BitVec.getLsbD_append, BitVec.getLsbD_append]
  interval_cases i <;> simp [pack20]

theorem shift_or_eq_append (m l : Byte) : m.setWidth 16 <<< 8 ||| l.setWidth 16 = m ++ l := by
  apply BitVec.eq_of_getLsbD_eq
  intro i hi
  rw [BitVec.getLsbD_append]
  interval_cases i <;> simp

theorem field20_eq (b : Block) (i : Nat) : field20 b i = inBlock b (i + 2) (word20 b i) := by
  rw [field20, memRead2_eq, memRead1_eq, word20, ← pack20_eq_append]
  unfold inBlock
  split_ifs
  · rfl
  · rfl
  · omega
  · rfl

theorem fieldHraw_eq (m : Block) : fieldHraw m = inBlock m 7 (byteAt m 6 ++ byteAt m 7) := by
  rw [fieldHraw, memRead2_eq, map_inBlock, ← shift_or_eq_append]

/-! ### The two functions on whole blocks -/

theorem decodeTCal_of_length {b24 : Block} (h24 : b24.length = 24) (b1 b7 : Block) :
    decodeTCal b24 = .ok (recordOf b24 b1 b7).t := by
  simp [decodeTCal, fieldT1, fieldT2, fieldT3, toReg_unsigned16, toReg_signed16, inBlock, h24, recordOf, bind,
    Except.bind, pure, Except.pure]

theorem decodePCal_of_length {b24 : Block} (h24 : b24.length = 24) (b1 b7 : Block) :
    decodePCal b24 = .ok (recordOf b24 b1 b7).p := by
  simp [decodePCal, fieldP1, fieldP2, fieldP3, fieldP4, fieldP5, fieldP6, fieldP7, fieldP8, fieldP9,
    toReg_unsigned16, toReg_signed16, inBlock, h24, recordOf, bind, Except.bind, pure, Except.pure]

theorem decodeHCal_of_length {b1 b7 : Block} (h1 : b1.length = 1) (h7 : b7.length = 7) (b24 : Block) :
    decodeHCal b1 b7 = .ok (recordOf b24 b1 b7).h := by
  simp [decodeHCal, fieldH1, fieldH2, fieldH3, fieldH6, toReg_signed16, toReg_unsigned8, toReg_signed8,
    toReg_fieldH4, toReg_fieldH5, inBlock, h1, h7, recordOf, bind, Except.bind, pure, Except.pure]

/-- `decode_calibration` gives the record that R71 to R76 lay out on blocks of exactly 24, 1 and 7 bytes, and nothing on
others (R143). -/
theorem decodeCalibration_eq (b24 b1 b7 : Block) :
    decodeCalibration b24 b1 b7 =
      if b24.length = 24 ∧ b1.length = 1 ∧ b7.length = 7 then .ok (recordOf b24 b1 b7)
      else .error .blockLength := by
  have hok : calLengthsOk b24 b1 b7 = true ↔ b24.length = 24 ∧ b1.length = 1 ∧ b7.length = 7 := by
    simp [calLengthsOk, and_assoc]
  simp only [decodeCalibration, hok]
  split
  · next h =>
    obtain ⟨h24, h1, h7⟩ := h
    rw [calFields, decodeTCal_of_length h24 b1 b7, decodePCal_of_length h24 b1 b7, decodeHCal_of_length h1 h7 b24]
    rfl
  · rfl

/-- `unpack_sample` gives the sample that R74 and R77 lay out on a block of exactly 8 bytes, and nothing on others
(R153). -/
theorem unpackSample_eq (m : Block) :
    unpackSample m = if m.length = 8 then .ok (sampleOf m) else .error .blockLength := by
  simp only [unpackSample, beq_iff_eq]
  split
  · next h =>
    have h8 : m.length = 8 := h
    simp [measFields, fieldPraw, fieldTraw, field20_eq, fieldHraw_eq, inBlock, h8, sampleOf, bind, Except.bind, pure,
      Except.pure]
  · rfl

end Sys2Proof.Proofs
end

section
/-! PROOFS. The flags of STATUS as its bits, and what each operation on the state does to them (spec/10_state.md R28,
R29). -/

namespace Sys2Proof.Proofs

open Sys2Proof Sys2Proof.Machine Sys2Proof.Safety

/-! ### Flags and bits -/

/-- A flag whose mask has the one bit `i` is bit `i` of STATUS. -/
theorem statusFlag_twoPow (v : BitVec 8) {i : Nat} (hi : i < 8) : statusFlag v (BitVec.twoPow 8 i) = v.getLsbD i := by
  have hne : BitVec.twoPow 8 i ≠ 0#8 := by interval_cases i <;> decide
  rw [statusFlag, BitVec.and_twoPow]
  cases v.getLsbD i <;> simp [hne]

/-- A flag reads 1 after a set where it read 1 or its bit is among those set. -/
theorem statusFlag_setFlags (v m k : BitVec 8) : statusFlag (setFlags v m) k = (statusFlag v k || statusFlag m k) := by
  have hdistrib : (v ||| m) &&& k = v &&& k ||| m &&& k := by
    ext i
    simp [Bool.and_or_distrib_right]
  rw [Bool.eq_iff_iff]
  simp [statusFlag, setFlags, hdistrib, BitVec.or_eq_zero_iff]
  tauto

/-- A flag after a clear reads what stands under the part of its mask that is left. -/
theorem statusFlag_clearFlags (v m k : BitVec 8) : statusFlag (clearFlags v m) k = statusFlag v (clearFlags k m) := by
  rw [statusFlag, statusFlag, clearFlags, clearFlags, BitVec.and_assoc, BitVec.and_comm (~~~m)]

theorem statusFlag_setFlags_other (v : BitVec 8) {m k : BitVec 8} (h : statusFlag m k = false) :
    statusFlag (setFlags v m) k = statusFlag v k := by
  rw [statusFlag_setFlags, h, Bool.or_false]

theorem statusFlag_setFlags_same (v : BitVec 8) {m k : BitVec 8} (h : statusFlag m k = true) :
    statusFlag (setFlags v m) k = true := by
  rw [statusFlag_setFlags, h, Bool.or_true]

theorem statusFlag_clearFlags_other (v : BitVec 8) {m k : BitVec 8} (h : clearFlags k m = k) :
    statusFlag (clearFlags v m) k = statusFlag v k := by
  rw [statusFlag_clearFlags, h]

theorem statusFlag_clearFlags_same (v m : BitVec 8) : statusFlag (clearFlags v m) m = false := by
  simp [statusFlag, clearFlags, BitVec.and_assoc]

theorem statusFlag_zero (k : BitVec 8) : statusFlag 0#8 k = false := by
  simp [statusFlag]

/-! ### The flags after each operation -/

/-- The reserved bits 6:3 are 0 (R28). -/
def ReservedClear (s : State) : Prop := statusFlag s.status reservedMask = false

@[simp] theorem respond_calValid (s : State) (r : Response) : (s.respond r).calValid = s.calValid := rfl
@[simp] theorem respond_smpValid (s : State) (r : Response) : (s.respond r).smpValid = s.smpValid := rfl
@[simp] theorem respond_outValid (s : State) (r : Response) : (s.respond r).outValid = s.outValid := rfl
@[simp] theorem respond_faulted (s : State) (r : Response) : (s.respond r).faulted = s.faulted := rfl
@[simp] theorem respond_reservedClear (s : State) (r : Response) :
    ReservedClear (s.respond r) ↔ ReservedClear s := Iff.rfl

@[simp] theorem restart_calValid (s : State) : s.restart.calValid = false := statusFlag_zero _
@[simp] theorem restart_smpValid (s : State) : s.restart.smpValid = false := statusFlag_zero _
@[simp] theorem restart_outValid (s : State) : s.restart.outValid = false := statusFlag_zero _
@[simp] theorem restart_faulted (s : State) : s.restart.faulted = false := statusFlag_zero _
@[simp] theorem restart_reservedClear (s : State) : ReservedClear s.restart := statusFlag_zero _

@[simp] theorem loadSample_calValid (s : State) (x : Sample) : (s.loadSample x).calValid = s.calValid :=
  statusFlag_setFlags_other _ rfl
@[simp] theorem loadSample_smpValid (s : State) (x : Sample) : (s.loadSample x).smpValid = true :=
  statusFlag_setFlags_same _ rfl
@[simp] theorem loadSample_outValid (s : State) (x : Sample) : (s.loadSample x).outValid = s.outValid :=
  statusFlag_setFlags_other _ rfl
@[simp] theorem loadSample_faulted (s : State) (x : Sample) : (s.loadSample x).faulted = s.faulted :=
  statusFlag_setFlags_other _ rfl
@[simp] theorem loadSample_reservedClear (s : State) (x : Sample) :
    ReservedClear (s.loadSample x) ↔ ReservedClear s :=
  iff_of_eq (congrArg (· = false) (statusFlag_setFlags_other _ rfl))

@[simp] theorem startSession_calValid (s : State) (c : Coef) : (s.startSession c).calValid = true :=
  (statusFlag_clearFlags_other _ rfl).trans (statusFlag_setFlags_same _ rfl)
@[simp] theorem startSession_smpValid (s : State) (c : Coef) : (s.startSession c).smpValid = s.smpValid :=
  (statusFlag_clearFlags_other _ rfl).trans (statusFlag_setFlags_other _ rfl)
@[simp] theorem startSession_outValid (s : State) (c : Coef) : (s.startSession c).outValid = false :=
  statusFlag_clearFlags_same _ _
@[simp] theorem startSession_faulted (s : State) (c : Coef) : (s.startSession c).faulted = s.faulted :=
  (statusFlag_clearFlags_other _ rfl).trans (statusFlag_setFlags_other _ rfl)
@[simp] theorem startSession_reservedClear (s : State) (c : Coef) :
    ReservedClear (s.startSession c) ↔ ReservedClear s :=
  iff_of_eq (congrArg (· = false) ((statusFlag_clearFlags_other _ rfl).trans (statusFlag_setFlags_other _ rfl)))

@[simp] theorem storeResults_calValid (s : State) (r : Results) : (s.storeResults r).calValid = s.calValid :=
  statusFlag_setFlags_other _ rfl
@[simp] theorem storeResults_smpValid (s : State) (r : Results) : (s.storeResults r).smpValid = s.smpValid :=
  statusFlag_setFlags_other _ rfl
@[simp] theorem storeResults_outValid (s : State) (r : Results) : (s.storeResults r).outValid = true :=
  statusFlag_setFlags_same _ rfl
@[simp] theorem storeResults_faulted (s : State) (r : Results) : (s.storeResults r).faulted = s.faulted :=
  statusFlag_setFlags_other _ rfl
@[simp] theorem storeResults_reservedClear (s : State) (r : Results) :
    ReservedClear (s.storeResults r) ↔ ReservedClear s :=
  iff_of_eq (congrArg (· = false) (statusFlag_setFlags_other _ rfl))

/-- Fault entry leaves every bit of STATUS but FAULTED (R247). -/
theorem statusFlag_raise (k : Cause) (s : State) {m : BitVec 8} (h : statusFlag faultedMask m = false) :
    statusFlag (s.raise k).status m = statusFlag s.status m := by
  cases hf : s.faulted with
  | true => rw [raise_of_faulted hf, State.respond_status]
  | false => rw [raise_of_not_faulted hf, statusFlag_setFlags_other _ h]

@[simp] theorem raise_calValid (k : Cause) (s : State) : (s.raise k).calValid = s.calValid := statusFlag_raise k s rfl
@[simp] theorem raise_smpValid (k : Cause) (s : State) : (s.raise k).smpValid = s.smpValid := statusFlag_raise k s rfl
@[simp] theorem raise_outValid (k : Cause) (s : State) : (s.raise k).outValid = s.outValid := statusFlag_raise k s rfl
@[simp] theorem raise_reservedClear (k : Cause) (s : State) : ReservedClear (s.raise k) ↔ ReservedClear s :=
  iff_of_eq (congrArg (· = false) (statusFlag_raise k s rfl))

/-- The block is FAULTED after every fault entry, old or new (R246, R247). -/
@[simp] theorem raise_faulted (k : Cause) (s : State) : (s.raise k).faulted = true := by
  cases hf : s.faulted with
  | true => rw [raise_of_faulted hf, respond_faulted, hf]
  | false => rw [raise_of_not_faulted hf]; exact statusFlag_setFlags_same _ rfl

/-- Fault entry, in the terms of the statements (R247). -/
theorem raise_eq_faultedWith {s : State} (hf : s.faulted = false) (k : Cause) : s.raise k = faultedWith s k k.code :=
  raise_of_not_faulted hf k

end Sys2Proof.Proofs
end

section
/-! PROOFS. Everything an instruction can do, said once, and from it everything a step can do (spec/46_commands.md R224,
R225, R231, R232, spec/42_sample_unpack.md R154, R155). -/

namespace Sys2Proof.Proofs

open Sys2Proof Sys2Proof.Machine Sys2Proof.Safety

/-! ### What an instruction can do -/

/-- The two states differ in the data registers and the trace scratch only. -/
structure DataOnly (s t : State) : Prop where
  status : t.status = s.status
  cause : t.cause = s.cause
  inbox : t.inbox = s.inbox
  outbox : t.outbox = s.outbox
  micro : t.micro = s.micro

/-- What an instruction can do to a state: answer and change nothing, take fault entry with one of the causes 1 to 5, or
what its own rule writes. -/
inductive Effect (s : State) : Instr → State → Prop
  | answers (i : Instr) (r : Response) : Effect s i (s.respond r)
  | raises (i : Instr) {k : Cause} (hk : k ≠ .faulted) : Effect s i (s.raise k)
  | resets : Effect s .reset (s.restart.respond (.ok .none))
  | session {b24 b1 b7 : Block} (hlen : b24.length = 24 ∧ b1.length = 1 ∧ b7.length = 7) :
      Effect s (.decodeCal b24 b1 b7) ((s.startSession (recordOf b24 b1 b7)).respond (.ok .none))
  | loadsWords {p v h : BitVec 32} (hp : p.toNat < 2 ^ 20) (hv : v.toNat < 2 ^ 20) (hh : h.toNat < 2 ^ 16) :
      Effect s (.ldsample p v h)
        ((s.loadSample ⟨p.setWidth 20, v.setWidth 20, h.setWidth 16⟩).respond (.ok .none))
  | loadsBlock {m : Block} (hlen : m.length = 8) :
      Effect s (.unpack m) ((s.loadSample (sampleOf m)).respond (.ok .none))
  | compensates (hcal : s.calValid = true) (hsmp : s.smpValid = true) (r : Response) :
      Effect s .compensate ((s.storeResults (compensate defaultParams s.coef s.sample)).respond r)
  | part {i : Instr} {m : Micro} {t : State} (hi : encode i = .micro m) (ht : DataOnly s t) : Effect s i t

/-- A command behind the gate of the FAULTED state has an effect if its body has one (R233). -/
theorem Effect.of_unlessFaulted {s t : State} {i : Instr} {body : StepResult} (h : unlessFaulted s body = .next t)
    (hbody : body = .next t → Effect s i t) : Effect s i t := by
  rcases unlessFaulted_cases h with ⟨_, rfl⟩ | ⟨_, hb⟩
  · exact .answers i _
  · exact hbody hb

/-- Every micro-operation is a read that writes data registers, or raises `BlockLength` (R52). -/
theorem Effect.of_latch {α : Type} {s t : State} {i : Instr} {m : Micro} {value : Except Cause α} {b : Block}
    {last : Nat} {x : α} {write : α → State} (hi : encode i = .micro m) (hv : value = inBlock b last x)
    (h : latch value s write = .next t) (hw : DataOnly s (write x)) : Effect s i t := by
  subst hv
  rcases inBlock_cases b last x with hb | hb <;> rw [hb] at h <;> cases h
  · exact .part hi hw
  · exact .raises i (by decide)

/-- A stage after the guard writes the trace scratch or is skipped (R187). -/
theorem Effect.of_unlessSkipped {s t write : State} {i : Instr} {m : Micro} (hi : encode i = .micro m)
    (h : unlessSkipped s write = .next t) (hw : DataOnly s write) : Effect s i t := by
  rcases unlessSkipped_cases s write with ⟨_, hs⟩ | ⟨_, hs⟩ <;> rw [hs] at h <;> cases h
  · exact .part hi ⟨rfl, rfl, rfl, rfl, rfl⟩
  · exact .part hi hw

theorem execReset_effect {s t : State} (h : execReset s = .next t) : Effect s .reset t := by
  cases h
  exact .resets

theorem execRdreg_effect {s t : State} {idx : Byte} (h : execRdreg idx s = .next t) : Effect s (.rdreg idx) t := by
  unfold execRdreg at h
  split at h
  · cases h
    exact .answers _ _
  · cases h
    exact .answers _ _
  · refine .of_unlessFaulted h fun hb => ?_
    cases hb
    exact .raises _ (by decide)
  · refine .of_unlessFaulted h fun hb => ?_
    split at hb <;> cases hb
    · exact .answers _ _
    · exact .raises _ (by decide)

theorem execDecodeCal_effect {s t : State} {b24 b1 b7 : Block} (h : execDecodeCal b24 b1 b7 s = .next t) :
    Effect s (.decodeCal b24 b1 b7) t := by
  refine .of_unlessFaulted h fun hb => ?_
  rw [decodeCalibration_eq] at hb
  by_cases hlen : b24.length = 24 ∧ b1.length = 1 ∧ b7.length = 7
  · rw [if_pos hlen] at hb
    cases hb
    exact .session hlen
  · rw [if_neg hlen] at hb
    cases hb
    exact .raises _ (by decide)

theorem sampleTooWide_eq_false {p v h : BitVec 32} :
    sampleTooWide p v h = false ↔ p.toNat < 2 ^ 20 ∧ v.toNat < 2 ^ 20 ∧ h.toNat < 2 ^ 16 := by
  simp [sampleTooWide, and_assoc]

theorem execLdsample_effect {s t : State} {p v h : BitVec 32} (hx : execLdsample p v h s = .next t) :
    Effect s (.ldsample p v h) t := by
  refine .of_unlessFaulted hx fun hb => ?_
  cases hw : sampleTooWide p v h <;> rw [hw] at hb <;> cases hb
  · obtain ⟨hp, hv, hh⟩ := sampleTooWide_eq_false.mp hw
    exact .loadsWords hp hv hh
  · exact .raises _ (by decide)

theorem execUnpack_effect {s t : State} {m : Block} (h : execUnpack m s = .next t) : Effect s (.unpack m) t := by
  refine .of_unlessFaulted h fun hb => ?_
  rw [unpackSample_eq] at hb
  by_cases hlen : m.length = 8
  · rw [if_pos hlen] at hb
    cases hb
    exact .loadsBlock hlen
  · rw [if_neg hlen] at hb
    cases hb
    exact .raises _ (by decide)

theorem execCompensate_effect {s t : State} (h : execCompensate s = .next t) : Effect s .compensate t := by
  refine .of_unlessFaulted h fun hb => ?_
  split at hb <;> cases hb
  · next hvalid =>
    obtain ⟨hcal, hsmp⟩ := (Bool.and_eq_true _ _).mp hvalid
    exact .compensates hcal hsmp _
  · exact .raises _ (by decide)

/-- Every instruction that answers a next state has one of the effects above. -/
theorem exec_effect {s t : State} {i : Instr} (h : exec i s = .next t) : Effect s i t := by
  cases i with
  | reset => exact execReset_effect h
  | rdreg idx => exact execRdreg_effect h
  | decodeCal b24 b1 b7 => exact execDecodeCal_effect h
  | ldsample p v w => exact execLdsample_effect h
  | unpack m => exact execUnpack_effect h
  | compensate => exact execCompensate_effect h
  | decT1 b | decP1 b => exact .of_latch rfl (toReg_unsigned16 b _) h ⟨rfl, rfl, rfl, rfl, rfl⟩
  | decT2 b | decT3 b | decP2 b | decP3 b | decP4 b | decP5 b | decP6 b | decP7 b | decP8 b | decP9 b | decH2 b =>
    exact .of_latch rfl (toReg_signed16 b _) h ⟨rfl, rfl, rfl, rfl, rfl⟩
  | decH1 b | decH3 b => exact .of_latch rfl (toReg_unsigned8 b _) h ⟨rfl, rfl, rfl, rfl, rfl⟩
  | decH4 b => exact .of_latch rfl (toReg_fieldH4 b) h ⟨rfl, rfl, rfl, rfl, rfl⟩
  | decH5 b => exact .of_latch rfl (toReg_fieldH5 b) h ⟨rfl, rfl, rfl, rfl, rfl⟩
  | decH6 b => exact .of_latch rfl (toReg_signed8 b _) h ⟨rfl, rfl, rfl, rfl, rfl⟩
  | unpP m | unpT m => exact .of_latch rfl (field20_eq m _) h ⟨rfl, rfl, rfl, rfl, rfl⟩
  | unpH m => exact .of_latch rfl (fieldHraw_eq m) h ⟨rfl, rfl, rfl, rfl, rfl⟩
  | pQ1 | pC1 | pC2 | pPa => exact .of_unlessSkipped rfl h ⟨rfl, rfl, rfl, rfl, rfl⟩
  | tVar1 | tVar2 | tFine | tCenti | tFahr | pA1 | pB1 | pB2 | pB3 | pA2 | pDen | pGuard | pHpa | hG | hA | hB | hC
  | hD | hE | hF | hClamp =>
    cases h
    exact .part rfl ⟨rfl, rfl, rfl, rfl, rfl⟩

/-! ### What a host's request decodes to -/

theorem wordBytes_append (b3 b2 b1 b0 : Byte) : wordBytes (b3 ++ b2 ++ b1 ++ b0) = [b3, b2, b1, b0] := by
  simp only [wordBytes, List.cons.injEq, and_true]
  refine ⟨?_, ?_, ?_, ?_⟩ <;>
  · refine BitVec.eq_of_getLsbD_eq fun i hi => ?_
    rw [BitVec.getLsbD_extractLsb', BitVec.getLsbD_append, BitVec.getLsbD_append, BitVec.getLsbD_append]
    interval_cases i <;> simp

theorem bytesWord_eq_some {b : Block} {w : BitVec 32} (h : bytesWord b = some w) : b = wordBytes w := by
  unfold bytesWord at h
  split at h
  · cases h
    exact (wordBytes_append ..).symm
  · cases h

theorem decodeLdsample_eq_some {payload : List Block} {i : Instr} (h : decodeLdsample payload = some i) :
    ∃ p v w, i = .ldsample p v w ∧ payload = [wordBytes p, wordBytes v, wordBytes w] := by
  unfold decodeLdsample at h
  split at h
  · split at h
    · next p v w hp hv hw =>
      cases h
      exact ⟨p, v, w, rfl, by rw [bytesWord_eq_some hp, bytesWord_eq_some hv, bytesWord_eq_some hw]⟩
    · cases h
  · cases h

/-- A command decodes from the frame that encodes it and from no other (R80 to R82). -/
theorem encode_of_decodeCmd {c : Byte} {payload : List Block} {i : Instr} (h : decodeCmd c payload = some (some i)) :
    encode i = .cmd8 ⟨c, payload⟩ := by
  have hcode : ∀ {n : Nat}, c.toNat = n → c = BitVec.ofNat 8 n := fun hn => by
    rw [← hn, BitVec.ofNat_toNat, BitVec.setWidth_eq]
  unfold decodeCmd at h
  split at h
  -- LDSAMPLE, whose words stand in the payload as bytes
  case h_4 hc =>
    obtain ⟨p, v, w, rfl, rfl⟩ := decodeLdsample_eq_some (Option.some.inj h)
    rw [hcode hc]
    rfl
  case h_7 => cases h
  all_goals
    next hc =>
    rw [hcode hc]
    split at h <;> cases h
    rfl

theorem encode_of_decodeRequest {r : Request} {i : Instr} (h : decodeRequest r = .ok i) : encode i = .cmd8 r := by
  unfold decodeRequest at h
  split at h
  · cases h
  · cases h
  · next hc =>
    cases h
    exact encode_of_decodeCmd hc

/-! ### What a step can do -/

/-- Between commands, a step waits, has the effect of the first request's command, or raises `IllegalCommand` (R61, R84,
R230). -/
theorem step_effect_of_between {s t : State} (hs : BetweenCommands s) (h : step s = .next t) :
    t = s ∨ ∃ r rest, s.inbox = r :: rest ∧
      ((∃ i, encode i = .cmd8 r ∧ Effect { s with inbox := rest } i t) ∨
        t = State.raise .illegalCommand { s with inbox := rest }) := by
  rcases step_cases h with ⟨_, ⟨_, ht⟩ | ⟨r, rest, hi, hr⟩⟩ | ⟨m, rest, hm, _⟩
  · exact .inl ht
  · refine .inr ⟨r, rest, hi, ?_⟩
    rcases hr with ⟨i, hd, hx⟩ | ⟨c, _, ht⟩
    · exact .inl ⟨i, encode_of_decodeRequest hd, exec_effect hx⟩
    · exact .inr ht
  · rw [BetweenCommands, hm] at hs
    cases hs

end Sys2Proof.Proofs
end

section
/-! PROOFS. The statements of the state (spec/10_state.md): the flags, the state after reset, the invariants of every
step and the writing of the three groups. -/

namespace Sys2Proof.Proofs

open Sys2Proof Sys2Proof.Machine Sys2Proof.Safety

/-! ### The control invariant -/

/-- The control invariant in the terms of the flags. -/
theorem controlOk_iff (s : State) :
    ControlOk s ↔ ReservedClear s ∧ s.cause.toNat ≤ 5 ∧ (s.cause = 0 ↔ s.faulted = false) ∧
      (s.outValid = true → s.calValid = true ∧ s.smpValid = true) := by
  have hreserved : s.status &&& 0x78#8 = 0 ↔ ReservedClear s := by simp [ReservedClear, statusFlag, reservedMask]
  rw [ControlOk, hreserved]

/-- The control invariant reads STATUS and CAUSE only. -/
theorem controlOk_of_eq {s t : State} (hs : ControlOk s) (hstatus : t.status = s.status) (hcause : t.cause = s.cause) :
    ControlOk t := by
  simpa only [ControlOk, State.faulted, State.outValid, State.calValid, State.smpValid, hstatus, hcause] using hs

theorem controlOk_respond {s : State} (hs : ControlOk s) (r : Response) : ControlOk (s.respond r) :=
  controlOk_of_eq hs rfl rfl

/-- Where STATUS and CAUSE are 0 the control invariant holds. -/
theorem controlOk_of_zero {s : State} (hstatus : s.status = 0) (hcause : s.cause = 0) : ControlOk s := by
  simp [ControlOk, State.faulted, State.outValid, statusFlag_zero, hstatus, hcause]

/-- The codes of the causes that a fault entry stores are 1 to 5 (R240, R247). -/
theorem code_bounds {k : Cause} (hk : k ≠ .faulted) : k.code.toNat ≤ 5 ∧ k.code ≠ 0#8 := by
  cases k with
  | faulted => exact absurd rfl hk
  | blockLength | sampleWidth | notReady | illegalCommand | badRegister => decide

theorem controlOk_raise {s : State} (hs : ControlOk s) {k : Cause} (hk : k ≠ .faulted) : ControlOk (s.raise k) := by
  cases hf : s.faulted with
  | true => rw [raise_of_faulted hf]; exact controlOk_respond hs _
  | false =>
    obtain ⟨hreserved, _, _, hout⟩ := (controlOk_iff s).mp hs
    obtain ⟨hle, hne⟩ := code_bounds hk
    have hcause : (s.raise k).cause = k.code := by rw [raise_of_not_faulted hf]
    rw [controlOk_iff]
    simp only [raise_reservedClear, raise_faulted, raise_outValid, raise_calValid, raise_smpValid, hcause]
    exact ⟨hreserved, hle, ⟨fun h => absurd h hne, fun h => nomatch h⟩, hout⟩

/-- An operation keeps the control invariant where it leaves CAUSE, FAULTED and the reserved bits, and shows results
only beside a valid record and a valid sample. -/
theorem controlOk_of_flags {s t : State} (hs : ControlOk s) (hcause : t.cause = s.cause)
    (hfaulted : t.faulted = s.faulted) (hreserved : ReservedClear t ↔ ReservedClear s)
    (hout : t.outValid = true → t.calValid = true ∧ t.smpValid = true) : ControlOk t := by
  obtain ⟨hclear, hle, hiff, _⟩ := (controlOk_iff s).mp hs
  rw [controlOk_iff, hcause, hfaulted]
  exact ⟨hreserved.mpr hclear, hle, hiff, hout⟩

theorem controlOk_of_effect {s t : State} {i : Instr} (hs : ControlOk s) (h : Effect s i t) : ControlOk t := by
  obtain ⟨_, _, _, hout⟩ := (controlOk_iff s).mp hs
  cases h with
  | answers _ r => exact controlOk_respond hs r
  | raises _ hk => exact controlOk_raise hs hk
  | resets => exact controlOk_of_zero rfl rfl
  | session hlen => exact controlOk_of_flags hs rfl (by simp) (by simp) (by simp)
  | loadsWords | loadsBlock =>
    exact controlOk_of_flags hs rfl (by simp) (by simp) (by simpa using fun h => (hout h).left)
  | compensates hcal hsmp r => exact controlOk_of_flags hs rfl (by simp) (by simp) (by simp [hcal, hsmp])
  | part hi ht => exact controlOk_of_eq hs ht.status ht.cause

/-- Settles O48: the effect of an instruction keeps the control invariant, and so do a wait, an `IllegalCommand` and the
drop of a trace. -/
theorem controlInvariantIsKept : Obligations.ControlInvariantIsKept := by
  intro s t hs h
  have hinbox : ∀ rest, ControlOk { s with inbox := rest } := fun _ => controlOk_of_eq hs rfl rfl
  have hmicro : ∀ rest, ControlOk { s with micro := rest } := fun _ => controlOk_of_eq hs rfl rfl
  rcases step_cases h with ⟨_, ⟨_, rfl⟩ | ⟨r, rest, _, hrun⟩⟩ | ⟨m, rest, _, hrun⟩
  · exact hs
  · rcases hrun with ⟨i, _, hx⟩ | ⟨c, _, rfl⟩
    · exact controlOk_of_effect (hinbox rest) (exec_effect hx)
    · exact controlOk_raise (hinbox rest) (by decide)
  · rcases hrun with ⟨_, rfl⟩ | ⟨_, i, _, hx⟩
    · exact hmicro []
    · exact controlOk_of_effect (hmicro rest) (exec_effect hx)

/-! ### The results and the record -/

theorem resultsCurrent_of_eq {s t : State} (hs : ResultsCurrent s) (hout : t.outValid = s.outValid)
    (hcoef : t.coef = s.coef) (hresults : t.results = s.results) : ResultsCurrent t := by
  simpa only [ResultsCurrent, hout, hcoef, hresults] using hs

theorem resultsCurrent_raise {s : State} (hs : ResultsCurrent s) (k : Cause) : ResultsCurrent (s.raise k) :=
  resultsCurrent_of_eq hs (raise_outValid k s) (State.raise_coef k s) (State.raise_results k s)

theorem resultsCurrent_of_outValid_eq_false {s : State} (h : s.outValid = false) : ResultsCurrent s := by
  simp [ResultsCurrent, h]

/-- A command leaves the block between commands. -/
theorem betweenCommands_of_effect {s t : State} {i : Instr} {r : Request} (hi : encode i = .cmd8 r)
    (hs : BetweenCommands s) (h : Effect s i t) : BetweenCommands t := by
  cases h with
  | answers | session | loadsWords | loadsBlock | compensates => exact hs
  | raises => exact (State.raise_micro _ s).trans hs
  | resets => rfl
  | part hm => rw [hm] at hi; cases hi

theorem resultsCurrent_of_effect {s t : State} {i : Instr} {r : Request} (hi : encode i = .cmd8 r)
    (hs : ResultsCurrent s) (h : Effect s i t) : ResultsCurrent t := by
  cases h with
  | answers => exact resultsCurrent_of_eq hs rfl rfl rfl
  | raises => exact resultsCurrent_raise hs _
  | resets => exact resultsCurrent_of_outValid_eq_false (by simp)
  | session => exact resultsCurrent_of_outValid_eq_false (by simp)
  | loadsWords | loadsBlock => exact resultsCurrent_of_eq hs (by simp) (by simp) (by simp)
  | compensates => exact fun _ => ⟨s.sample, rfl⟩
  | part hm => rw [hm] at hi; cases hi

/-- Settles O50, by the effect of the command that the step runs: a new record clears OUT_VALID, and only a
COMPENSATE on the current record sets it. -/
theorem currentResultsAreKept : Obligations.CurrentResultsAreKept := by
  intro s t hb hs h
  have hinbox : ∀ rest, BetweenCommands { s with inbox := rest } ∧ ResultsCurrent { s with inbox := rest } :=
    fun _ => ⟨hb, hs⟩
  rcases step_effect_of_between hb h with rfl | ⟨r, rest, _, ⟨i, hi, he⟩ | rfl⟩
  · exact ⟨hb, hs⟩
  · exact ⟨betweenCommands_of_effect hi (hinbox rest).left he, resultsCurrent_of_effect hi (hinbox rest).right he⟩
  · exact ⟨(State.raise_micro _ _).trans hb, resultsCurrent_raise (hinbox rest).right _⟩

/-! ### The three groups -/

/-- A value of a word that fits in a register is kept by it (R154). -/
theorem toNat_setWidth_of_lt {v : BitVec 32} {n : Nat} (h : v.toNat < 2 ^ n) : (v.setWidth n).toNat = v.toNat := by
  rw [BitVec.toNat_setWidth, Nat.mod_eq_of_lt h]

/-- Settles O6: the effect of each command writes a group as a whole or not at all. -/
theorem groupsAreWrittenAsAWhole : Obligations.GroupsAreWrittenAsAWhole := by
  intro s t hb h
  rcases step_effect_of_between hb h with rfl | ⟨r, rest, hin, ⟨i, hi, he⟩ | rfl⟩
  · exact ⟨.inl rfl, .inl rfl, .inl rfl⟩
  · rw [hin]
    cases he with
    | answers => exact ⟨.inl rfl, .inl rfl, .inl rfl⟩
    | raises => exact ⟨.inl (by simp), .inl (by simp), .inl (by simp)⟩
    | resets =>
      obtain rfl := Frame.cmd8.inj hi
      exact ⟨.inr (.inl ⟨rest, rfl, rfl⟩), .inr (.inl ⟨rest, rfl, rfl⟩), .inr (.inl ⟨rest, rfl, rfl⟩)⟩
    | @session b24 b1 b7 hlen =>
      obtain ⟨h24, h1, h7⟩ := hlen
      obtain rfl := Frame.cmd8.inj hi
      exact ⟨.inr (.inr ⟨b24, b1, b7, rest, rfl, h24, h1, h7, rfl⟩), .inl rfl, .inl rfl⟩
    | @loadsWords p v w hp hv hw =>
      obtain rfl := Frame.cmd8.inj hi
      exact ⟨.inl rfl, .inr (.inr (.inl ⟨p, v, w, rest, rfl, toNat_setWidth_of_lt hp, toNat_setWidth_of_lt hv,
        toNat_setWidth_of_lt hw⟩)), .inl rfl⟩
    | @loadsBlock m hlen =>
      obtain rfl := Frame.cmd8.inj hi
      exact ⟨.inl rfl, .inr (.inr (.inr ⟨m, rest, rfl, hlen, rfl⟩)), .inl rfl⟩
    | compensates =>
      obtain rfl := Frame.cmd8.inj hi
      exact ⟨.inl rfl, .inl rfl, .inr (.inr ⟨rest, rfl, rfl⟩)⟩
    | part hm => rw [hm] at hi; cases hi
  · exact ⟨.inl (by simp), .inl (by simp), .inl (by simp)⟩

/-! ### The flags -/

/-- Settles O43. -/
theorem statusBitsAreTheFlags : Obligations.StatusBitsAreTheFlags := fun s =>
  ⟨statusFlag_twoPow s.status (i := 0) (by omega), statusFlag_twoPow s.status (i := 1) (by omega),
    statusFlag_twoPow s.status (i := 2) (by omega), statusFlag_twoPow s.status (i := 7) (by omega)⟩

/-! ### The state after reset -/

/-- Settles O47. -/
theorem controlInvariantAtReset : Obligations.ControlInvariantAtReset := controlOk_of_zero rfl rfl

/-- After reset every flag reads 0 (R35). -/
theorem reset_statusFlag (k : BitVec 8) : statusFlag State.reset.status k = false := statusFlag_zero k

/-- Settles O49. -/
theorem currentResultsAtReset : Obligations.CurrentResultsAtReset :=
  have hout : State.reset.outValid = false := reset_statusFlag outMask
  ⟨hout, rfl, rfl, resultsCurrent_of_outValid_eq_false hout⟩

/-- COMPENSATE without a valid record faults `NotReady` (R225). -/
theorem exec_compensate_of_not_calValid {s : State} (hf : s.faulted = false) (hcal : s.calValid = false) :
    exec .compensate s = .next (s.raise .notReady) := by
  show execCompensate s = _
  rw [execCompensate, unlessFaulted_of_not_faulted hf]
  simp [hcal]

/-- RDREG of a register whose group holds no value faults `NotReady` (R27, R232). -/
theorem exec_rdreg_of_not_valid {s : State} {idx : Byte} {r : Reg} (hf : s.faulted = false)
    (hr : regOfIndex idx = some r) (hvalid : s.groupValid r.group = false) :
    exec (.rdreg idx) s = .next (s.raise .notReady) := by
  show execRdreg idx s = _
  unfold execRdreg
  split
  · next hstatus => rw [hr] at hstatus; cases hstatus; cases hvalid
  · next hcause => rw [hr] at hcause; cases hcause; cases hvalid
  · next hnone => rw [hr] at hnone; cases hnone
  · next r' hne hne' hr' =>
    rw [hr] at hr'
    cases hr'
    rw [unlessFaulted_of_not_faulted hf]
    simp [hvalid]

/-- The indices 0x00 to 0x1A but 0x17 name the data registers (R20). -/
theorem regOfIndex_data {idx : Byte} (hle : idx.toNat ≤ 0x1A) (hne : idx ≠ 0x17) :
    ∃ r, regOfIndex idx = some r ∧ r.group ≠ .control := by
  have hne' : idx.toNat ≠ 0x17 := fun h => hne (BitVec.eq_of_toNat_eq h)
  have hrange : idx.toNat ≤ 0x16 ∨ 0x18 ≤ idx.toNat := by omega
  unfold regOfIndex
  generalize idx.toNat = n at hle hrange
  rcases hrange with hlow | hhigh
  · interval_cases n <;> exact ⟨_, rfl, by decide⟩
  · interval_cases n <;> exact ⟨_, rfl, by decide⟩

/-- After reset no group of data registers holds a value (R27, R35). -/
theorem reset_groupValid {g : RegGroup} (hg : g ≠ .control) : State.reset.groupValid g = false := by
  cases g with
  | coef => exact reset_statusFlag calMask
  | sample => exact reset_statusFlag smpMask
  | result => exact reset_statusFlag outMask
  | control => exact absurd rfl hg

/-- Settles O41: with no flag set, both commands raise `NotReady`. -/
theorem nothingIsReadableAfterReset : Obligations.NothingIsReadableAfterReset := by
  have hf : State.reset.faulted = false := reset_statusFlag faultedMask
  have hcal : State.reset.calValid = false := reset_statusFlag calMask
  have hraise : State.reset.raise .notReady = faultedWith State.reset .notReady 3 := raise_eq_faultedWith hf .notReady
  refine ⟨rfl, rfl, hcal, reset_statusFlag smpMask, reset_statusFlag outMask, hf, ?_, ?_⟩
  · rw [exec_compensate_of_not_calValid hf hcal, hraise]
  · intro idx hle hne
    obtain ⟨r, hr, hdata⟩ := regOfIndex_data hle hne
    rw [exec_rdreg_of_not_valid hf hr (reset_groupValid hdata), hraise]

end Sys2Proof.Proofs
end

section
/-! PROOFS. The order of commands (spec/20_memory.md): a run over a command sequence is the left fold of the command
rules (R61), since no command rule reads or writes the list of requests (log entry 2). -/

namespace Sys2Proof.Proofs

open Sys2Proof Sys2Proof.Machine Sys2Proof.Safety

/-! ### Operations that take no part in the list of requests -/

/-- `s` with another list of requests before it. -/
def withInbox (s : State) (l : List Request) : State := { s with inbox := l }

@[simp] theorem withInbox_self (s : State) : withInbox s s.inbox = s := rfl
@[simp] theorem withInbox_withInbox (s : State) (l l' : List Request) :
    withInbox (withInbox s l) l' = withInbox s l' := rfl
@[simp] theorem withInbox_faulted (s : State) (l : List Request) : (withInbox s l).faulted = s.faulted := rfl

theorem respond_withInbox (s : State) (l : List Request) (r : Response) :
    (withInbox s l).respond r = withInbox (s.respond r) l := rfl

theorem raise_withInbox (k : Cause) (s : State) (l : List Request) :
    (withInbox s l).raise k = withInbox (s.raise k) l := by
  cases hf : s.faulted with
  | true => rw [raise_of_faulted hf, raise_of_faulted (s := withInbox s l) hf, respond_withInbox]
  | false =>
    rw [raise_of_not_faulted hf, raise_of_not_faulted (s := withInbox s l) hf]
    rfl

/-- An operation that completes in every state, and neither reads nor writes the list of requests. -/
def IgnoresInbox (f : State → StepResult) : Prop :=
  ∀ s, ∃ t, ∀ l, f (withInbox s l) = .next (withInbox t l)

theorem IgnoresInbox.next {write : State → State} (h : ∀ s l, write (withInbox s l) = withInbox (write s) l) :
    IgnoresInbox fun s => .next (write s) :=
  fun s => ⟨write s, fun l => congrArg _ (h s l)⟩

theorem IgnoresInbox.raise (k : Cause) : IgnoresInbox fun s => .next (s.raise k) := .next (raise_withInbox k)

theorem IgnoresInbox.ite {c : State → Bool} {f g : State → StepResult} (hc : ∀ s l, c (withInbox s l) = c s)
    (hf : IgnoresInbox f) (hg : IgnoresInbox g) : IgnoresInbox fun s => if c s then f s else g s := by
  intro s
  cases h : c s with
  | true => simpa [hc, h] using hf s
  | false => simpa [hc, h] using hg s

theorem IgnoresInbox.unlessFaulted {body : State → StepResult} (h : IgnoresInbox body) :
    IgnoresInbox fun s => unlessFaulted s (body s) :=
  .ite withInbox_faulted (.next fun s l => respond_withInbox s l _) h

/-- The outcome in a state says the outcome with every other list of requests. -/
theorem IgnoresInbox.next_withInbox {f : State → StepResult} (h : IgnoresInbox f) {s t : State} (hs : f s = .next t)
    (l : List Request) : f (withInbox s l) = .next (withInbox t l) := by
  obtain ⟨u, hu⟩ := h s
  have ht : t = withInbox u s.inbox := Host.Outcome.next.inj (hs.symm.trans (hu s.inbox))
  rw [hu l, ht, withInbox_withInbox]

/-! ### The commands take no part in the list of requests -/

theorem execReset_ignoresInbox : IgnoresInbox execReset := .next fun _ _ => rfl

theorem execRdreg_ignoresInbox (idx : Byte) : IgnoresInbox (execRdreg idx) := by
  unfold execRdreg
  cases regOfIndex idx with
  | none => exact .unlessFaulted (.raise _)
  | some r =>
    cases r with
    | status | cause => exact .next fun _ _ => rfl
    | _ => exact .unlessFaulted (.ite (fun _ _ => rfl) (.next fun _ _ => rfl) (.raise _))

theorem execDecodeCal_ignoresInbox (b24 b1 b7 : Block) : IgnoresInbox (execDecodeCal b24 b1 b7) := by
  refine .unlessFaulted ?_
  cases decodeCalibration b24 b1 b7 with
  | ok c => exact .next fun _ _ => rfl
  | error k => exact .raise k

theorem execLdsample_ignoresInbox (p t h : BitVec 32) : IgnoresInbox (execLdsample p t h) :=
  .unlessFaulted (.ite (fun _ _ => rfl) (.raise _) (.next fun _ _ => rfl))

theorem execUnpack_ignoresInbox (m : Block) : IgnoresInbox (execUnpack m) := by
  refine .unlessFaulted ?_
  cases unpackSample m with
  | ok x => exact .next fun _ _ => rfl
  | error k => exact .raise k

theorem execCompensate_ignoresInbox : IgnoresInbox execCompensate :=
  .unlessFaulted (.ite (fun _ _ => rfl) (.next fun _ _ => rfl) (.raise _))

theorem exec_ignoresInbox {i : Instr} {r : Request} (hi : encode i = .cmd8 r) : IgnoresInbox (exec i) := by
  cases i with
  | reset => exact execReset_ignoresInbox
  | rdreg idx => exact execRdreg_ignoresInbox idx
  | decodeCal b24 b1 b7 => exact execDecodeCal_ignoresInbox b24 b1 b7
  | ldsample p t h => exact execLdsample_ignoresInbox p t h
  | unpack m => exact execUnpack_ignoresInbox m
  | compensate => exact execCompensate_ignoresInbox
  | _ => cases hi

/-! ### A presentable request is served -/

/-- A presentable request is a command or has an unassigned code (R80, R84). -/
theorem decodeRequest_of_presentable {r : Request} (hr : Presentable r) :
    (∃ i, decodeRequest r = .ok i) ∨ decodeRequest r = .error (.illegalCommand r.code) := by
  cases hc : decodeCmd r.code r.payload with
  | none => exact .inr (by simp [decodeRequest, hc])
  | some o =>
    cases o with
    | none => exact absurd (by simp [decodeRequest, hc]) (hr r.code)
    | some i => exact .inl ⟨i, by simp [decodeRequest, hc]⟩

theorem runFrame_of_decode_ok {f : Frame} {i : Instr} (h : decode f = .ok i) : runFrame f = exec i := by
  funext s
  simp [runFrame, h]

theorem runFrame_of_illegalCommand {f : Frame} {c : Byte} (h : decode f = .error (.illegalCommand c)) :
    runFrame f = fun s => .next (s.raise .illegalCommand) := by
  funext s
  simp [runFrame, h, rejectFrame]

theorem runFrame_ignoresInbox {r : Request} (hr : Presentable r) : IgnoresInbox (runFrame (.cmd8 r)) := by
  rcases decodeRequest_of_presentable hr with ⟨i, hd⟩ | hd
  · rw [runFrame_of_decode_ok (f := .cmd8 r) hd]
    exact exec_ignoresInbox (encode_of_decodeRequest hd)
  · rw [runFrame_of_illegalCommand (f := .cmd8 r) hd]
    exact .raise _

/-- A request that runs to a next state runs to the state that `serve` names. -/
theorem serve_of_runFrame {r : Request} {s t : State} (h : runFrame (.cmd8 r) s = .next t) : serve s r = t := by
  rcases runFrame_cases (.cmd8 r) s with ⟨i, hd, hx⟩ | ⟨e, hd, hx⟩
  · have hd' : decodeRequest r = .ok i := hd
    simp [serve, hd', hx ▸ h]
  · have hd' : decodeRequest r = .error e := hd
    simp [serve, hd', (rejectFrame_next (hx ▸ h)).right]

theorem runFrame_eq_serve {r : Request} (hr : Presentable r) (s : State) :
    runFrame (.cmd8 r) s = .next (serve s r) := by
  obtain ⟨t, ht⟩ := runFrame_ignoresInbox hr s
  have hs : runFrame (.cmd8 r) s = .next (withInbox t s.inbox) := ht s.inbox
  rw [hs, serve_of_runFrame hs]

/-- Between commands, a step takes the first request off the list and serves it (R61, R230). -/
theorem step_serves {r : Request} (hr : Presentable r) {s : State} (hs : BetweenCommands s) (rest : List Request) :
    step (withInbox s (r :: rest)) = .next (withInbox (serve s r) rest) := by
  rcases step_of_between (s := withInbox s (r :: rest)) hs with ⟨hnil, _⟩ | ⟨r', rest', hin, hstep⟩
  · cases hnil
  · cases hin
    rw [hstep]
    exact (runFrame_ignoresInbox hr).next_withInbox (runFrame_eq_serve hr s) rest

/-! ### What serving a request leaves and what it answers -/

/-- To serve a request is to have its command's effect, or to raise `IllegalCommand` (R61, R84). -/
theorem serve_effect {r : Request} (hr : Presentable r) (s : State) :
    (∃ i, encode i = .cmd8 r ∧ Effect s i (serve s r)) ∨ serve s r = s.raise .illegalCommand := by
  have hrun := runFrame_eq_serve hr s
  rcases runFrame_cases (.cmd8 r) s with ⟨i, hd, hx⟩ | ⟨e, _, hx⟩
  · exact .inl ⟨i, encode_of_decodeRequest hd, exec_effect (hx ▸ hrun)⟩
  · exact .inr (rejectFrame_next (hx ▸ hrun)).right

theorem inbox_of_effect {s t : State} {i : Instr} (h : Effect s i t) : t.inbox = s.inbox := by
  cases h with
  | answers | resets | session | loadsWords | loadsBlock | compensates => rfl
  | raises => exact State.raise_inbox _ s
  | part _ ht => exact ht.inbox

/-- A fault entry, and a refusal in its place, gives one response (R246, R247). -/
theorem raise_outbox_length (k : Cause) (s : State) : (s.raise k).outbox.length = s.outbox.length + 1 := by
  cases hf : s.faulted with
  | true => simp [raise_of_faulted hf]
  | false => simp [raise_of_not_faulted hf]

/-- A command gives one response (R83). -/
theorem outbox_length_of_effect {s t : State} {i : Instr} {r : Request} (hi : encode i = .cmd8 r)
    (h : Effect s i t) : t.outbox.length = s.outbox.length + 1 := by
  cases h with
  | answers | resets | session | loadsWords | loadsBlock | compensates => simp
  | raises => exact raise_outbox_length _ s
  | part hm => rw [hm] at hi; cases hi

theorem serve_inbox {r : Request} (hr : Presentable r) (s : State) : (serve s r).inbox = s.inbox := by
  rcases serve_effect hr s with ⟨i, _, he⟩ | h
  · exact inbox_of_effect he
  · rw [h, State.raise_inbox]

theorem serve_betweenCommands {r : Request} (hr : Presentable r) {s : State} (hs : BetweenCommands s) :
    BetweenCommands (serve s r) := by
  rcases serve_effect hr s with ⟨i, hi, he⟩ | h
  · exact betweenCommands_of_effect hi hs he
  · rw [h]
    exact (State.raise_micro _ s).trans hs

theorem serve_outbox_length {r : Request} (hr : Presentable r) (s : State) :
    (serve s r).outbox.length = s.outbox.length + 1 := by
  rcases serve_effect hr s with ⟨i, hi, he⟩ | h
  · exact outbox_length_of_effect hi he
  · rw [h, raise_outbox_length]

/-! ### A run over a command sequence -/

/-- A run whose first step answers `t` goes on from `t`. -/
theorem run_succ {M : Host.Core} {s t : M.State} (h : M.step s = .next t) (n : Nat) :
    M.run (n + 1) s = M.run n t := by
  simp only [Host.Core.run, h]

/-- R61 from every state between commands: a run takes the requests off the list one by one and serves each. -/
theorem run_withInbox {rs : List Request} (hrs : ∀ r ∈ rs, Presentable r) {s : State} (hs : BetweenCommands s) :
    Host.Core.run Sys2Proof.core rs.length (withInbox s rs) = .next (withInbox (rs.foldl serve s) []) := by
  induction rs generalizing s with
  | nil => rfl
  | cons r rest ih =>
    obtain ⟨hr, hrest⟩ := List.forall_mem_cons.mp hrs
    calc Host.Core.run Sys2Proof.core (rest.length + 1) (withInbox s (r :: rest))
        = Host.Core.run Sys2Proof.core rest.length (withInbox (serve s r) rest) :=
          run_succ (M := Sys2Proof.core) (step_serves hr hs rest) rest.length
      _ = .next (withInbox (rest.foldl serve (serve s r)) []) := ih hrest (serve_betweenCommands hr hs)

theorem foldl_serve_inbox {rs : List Request} (hrs : ∀ r ∈ rs, Presentable r) (s : State) :
    (rs.foldl serve s).inbox = s.inbox := by
  induction rs generalizing s with
  | nil => rfl
  | cons r rest ih =>
    obtain ⟨hr, hrest⟩ := List.forall_mem_cons.mp hrs
    rw [List.foldl_cons, ih hrest, serve_inbox hr]

theorem foldl_serve_outbox_length {rs : List Request} (hrs : ∀ r ∈ rs, Presentable r) (s : State) :
    (rs.foldl serve s).outbox.length = s.outbox.length + rs.length := by
  induction rs generalizing s with
  | nil => rfl
  | cons r rest ih =>
    obtain ⟨hr, hrest⟩ := List.forall_mem_cons.mp hrs
    rw [List.foldl_cons, ih hrest, serve_outbox_length hr, List.length_cons]
    omega

/-- Settles O9, by induction on the sequence: each step serves the first request, and what serving it gives does not
depend on the requests that wait behind it. -/
theorem runIsTheLeftFold : Obligations.RunIsTheLeftFold := by
  intro rs s hrs hmicro hinbox
  have hend : withInbox (rs.foldl serve s) [] = rs.foldl serve s := by
    rw [← hinbox, ← foldl_serve_inbox hrs s, withInbox_self]
  exact ⟨hend ▸ run_withInbox hrs hmicro, foldl_serve_outbox_length hrs s⟩

end Sys2Proof.Proofs
end

section
/-! PROOFS. The encoder and the decoder undo each other (spec/30_encoding.md R80 to R85): a frame decodes to an
instruction exactly where it is the encoding of it and the instruction is well-formed. -/

namespace Sys2Proof.Proofs

open Sys2Proof Sys2Proof.Machine Sys2Proof.Safety

/-! ### The words of LDSAMPLE -/

/-- The four bytes of a word, put together again, are the word (log entry 3). -/
theorem bytesWord_wordBytes (w : BitVec 32) : bytesWord (wordBytes w) = some w := by
  refine congrArg some (BitVec.eq_of_getLsbD_eq fun i hi => ?_)
  rw [BitVec.getLsbD_append, BitVec.getLsbD_append, BitVec.getLsbD_append]
  interval_cases i <;> simp

theorem decodeLdsample_wordBytes (p t h : BitVec 32) :
    decodeLdsample [wordBytes p, wordBytes t, wordBytes h] = some (.ldsample p t h) := by
  simp only [decodeLdsample, bytesWord_wordBytes]

/-! ### Micro-operations and stages -/

/-- The frame of a micro-operation decodes to it on a block of its row's length (R79). -/
theorem decode_encode_of_blk {n : Byte} {b : Block} {i : Instr} (henc : encode i = .micro (.blk n b))
    (hi : decodeBlk n b = some i) (hwf : i.wellFormed = true) : decode (encode i) = .ok i := by
  simp only [henc, decode, decodeMicro, hi, hwf, if_true]

/-- A micro-operation decodes from the number that encodes it and from no other (R85). -/
theorem encode_of_decodeBlk {n : Byte} {b : Block} {i : Instr} (h : decodeBlk n b = some i) :
    encode i = .micro (.blk n b) := by
  unfold decodeBlk at h
  split at h <;> cases h
  all_goals
    next hn =>
    rw [(BitVec.toNat_eq_nat.mp hn).right]
    rfl

/-- A stage decodes from the number that encodes it and from no other (R85), and reads no block. -/
theorem wellFormed_and_encode_of_decodeStg {n : Byte} {i : Instr} (h : decodeStg n = some i) :
    i.wellFormed = true ∧ encode i = .micro (.stg n) := by
  unfold decodeStg at h
  split at h <;> cases h
  all_goals
    next hn =>
    rw [(BitVec.toNat_eq_nat.mp hn).right]
    exact ⟨rfl, rfl⟩

theorem wellFormed_and_encode_of_decodeMicro {m : Micro} {i : Instr} (h : decodeMicro m = .ok i) :
    i.wellFormed = true ∧ encode i = .micro m := by
  cases m with
  | blk n b =>
    simp only [decodeMicro] at h
    split at h
    · cases h
    · next j hj =>
      split at h <;> cases h
      next hwf => exact ⟨hwf, encode_of_decodeBlk hj⟩
  | stg n =>
    simp only [decodeMicro] at h
    split at h <;> cases h
    next hj => exact wellFormed_and_encode_of_decodeStg hj

/-! ### Commands -/

/-- The instructions in the format of a host command are the six commands (R70, R81). -/
theorem isCommand_of_encode {i : Instr} {r : Request} (h : encode i = .cmd8 r) : IsCommand i := by
  cases i with
  | reset => exact .inl rfl
  | rdreg idx => exact .inr (.inl ⟨idx, rfl⟩)
  | decodeCal b24 b1 b7 => exact .inr (.inr (.inl ⟨b24, b1, b7, rfl⟩))
  | ldsample p t w => exact .inr (.inr (.inr (.inl ⟨p, t, w, rfl⟩)))
  | unpack m => exact .inr (.inr (.inr (.inr (.inl ⟨m, rfl⟩))))
  | compensate => exact .inr (.inr (.inr (.inr (.inr rfl))))
  | _ => cases h

/-- A command is well-formed with any payload contents (R282). -/
theorem wellFormed_of_isCommand {i : Instr} (h : IsCommand i) : i.wellFormed = true := by
  rcases h with rfl | ⟨_, rfl⟩ | ⟨_, _, _, rfl⟩ | ⟨_, _, _, rfl⟩ | ⟨_, rfl⟩ | rfl <;> rfl

/-! ### The two round trips -/

/-- Settles O1: the code or number of each row selects that row again; only LDSAMPLE changes the form of its payload,
and only a micro-operation's decoding looks at the length of its block. -/
theorem decodeOfEncodeIsTheInstruction : Obligations.DecodeOfEncodeIsTheInstruction := by
  intro i hwf
  cases i with
  | reset | rdreg | decodeCal | unpack | compensate => rfl
  | ldsample p t h =>
    have hcmd : decodeCmd 0x20 [wordBytes p, wordBytes t, wordBytes h] = some (some (.ldsample p t h)) :=
      congrArg some (decodeLdsample_wordBytes p t h)
    simp only [encode, Request.ldsample, decode, decodeRequest, hcmd]
  | decT1 | decT2 | decT3 | decP1 | decP2 | decP3 | decP4 | decP5 | decP6 | decP7 | decP8 | decP9 | decH1 | decH2
  | decH3 | decH4 | decH5 | decH6 | unpP | unpT | unpH => exact decode_encode_of_blk rfl rfl hwf
  | tVar1 | tVar2 | tFine | tCenti | tFahr | pA1 | pB1 | pB2 | pB3 | pA2 | pDen | pGuard | pQ1 | pC1 | pC2 | pPa | pHpa
  | hG | hA | hB | hC | hD | hE | hF | hClamp => rfl

/-- Settles O2, by the format of the frame: each decoder answers an instruction on the frame that encodes it only. -/
theorem decodedFrameIsTheEncoding : Obligations.DecodedFrameIsTheEncoding := by
  intro f i h
  cases f with
  | cmd8 r =>
    have henc : encode i = .cmd8 r := encode_of_decodeRequest h
    exact ⟨wellFormed_of_isCommand (isCommand_of_encode henc), henc⟩
  | micro m => exact wellFormed_and_encode_of_decodeMicro h

/-- Settles O3, by decoding the words. -/
theorem specWordsDecode : Obligations.SpecWordsDecode :=
  ⟨by decide, by decide, by decide, rfl, rfl, by decide, by decide, by decide, rfl, rfl, rfl⟩

end Sys2Proof.Proofs
end

section
/-! PROOFS. What a host can bring the block to do: run a command, answer `IllegalCommand`, or wait; and never stop on a
request that can be presented (spec/30_encoding.md R70, R84, spec/46_commands.md R230). -/

namespace Sys2Proof.Proofs

open Sys2Proof Sys2Proof.Machine Sys2Proof.Safety

/-! ### The codes that R81 does not assign -/

/-- The codes of the six commands (R81). -/
def commandCodes : List Nat := [0x00, 0x01, 0x10, 0x20, 0x21, 0x30]

/-- A code is unassigned exactly where it is none of the six, whatever the payload (R84, R244). -/
theorem decodeCmd_eq_none_iff (c : Byte) (payload : List Block) :
    decodeCmd c payload = none ↔ c.toNat ∉ commandCodes := by
  unfold decodeCmd
  split
  case h_7 => simp_all [commandCodes]
  all_goals
    next hcode =>
    rw [hcode]
    simp [commandCodes]

theorem decodeRequest_of_unassigned {c : Byte} (hc : c.toNat ∉ commandCodes) (payload : List Block) :
    decodeRequest ⟨c, payload⟩ = .error (.illegalCommand c) := by
  simp only [decodeRequest, (decodeCmd_eq_none_iff c payload).mpr hc]

/-- The stages have the numbers from 0x20 on (R85). -/
theorem le_toNat_of_decodeStg {n : Byte} {i : Instr} (h : decodeStg n = some i) : 0x20 ≤ n.toNat := by
  unfold decodeStg at h
  split at h <;> cases h <;> omega

/-- A stage's number is the code of a command only where it is 0x20, 0x21 or 0x30 (R81, R85). -/
theorem stage_number_unassigned {n : Byte} {i : Instr} (h : decodeMicro (.stg n) = .ok i) (h20 : n ≠ 0x20)
    (h21 : n ≠ 0x21) (h30 : n ≠ 0x30) : n.toNat ∉ commandCodes := by
  have hle : 0x20 ≤ n.toNat := by
    simp only [decodeMicro] at h
    split at h <;> cases h
    next hi => exact le_toNat_of_decodeStg hi
  have hne : ∀ {k : Byte}, n ≠ k → n.toNat ≠ k.toNat := fun hk h => hk (BitVec.eq_of_toNat_eq h)
  have h20' : n.toNat ≠ 0x20 := hne h20
  have h21' : n.toNat ≠ 0x21 := hne h21
  have h30' : n.toNat ≠ 0x30 := hne h30
  simp only [commandCodes, List.mem_cons, List.not_mem_nil, or_false]
  omega

/-! ### A step between commands -/

/-- A request is a command, has an unassigned code, or has not the payload that its code fixes (R80, R84). -/
theorem decodeRequest_cases (r : Request) :
    (∃ i, decodeRequest r = .ok i) ∨ decodeRequest r = .error (.illegalCommand r.code) ∨
      (¬ Presentable r ∧ decodeRequest r = .error (.payloadShape r.code)) := by
  by_cases hr : Presentable r
  · exact (decodeRequest_of_presentable hr).imp_right .inl
  · obtain ⟨c, hc⟩ : ∃ c, decodeRequest r = .error (.payloadShape c) := by simpa [Presentable] using hr
    refine .inr (.inr ⟨hr, ?_⟩)
    rw [hc]
    unfold decodeRequest at hc
    split at hc <;> cases hc
    rfl

/-- Between commands, a step runs the first request's frame. -/
theorem step_of_inbox {s : State} (hs : BetweenCommands s) {r : Request} {rest : List Request}
    (hin : s.inbox = r :: rest) : step s = runFrame (.cmd8 r) { s with inbox := rest } := by
  rcases step_of_between hs with ⟨hnil, _⟩ | ⟨r', rest', hin', hstep⟩
  · rw [hin] at hnil
    cases hnil
  · rw [hin] at hin'
    cases hin'
    exact hstep

/-- An unassigned code raises `IllegalCommand` (R84). -/
theorem step_of_illegalCommand {s : State} (hs : BetweenCommands s) {r : Request} {rest : List Request}
    (hin : s.inbox = r :: rest) {c : Byte} (hd : decodeRequest r = .error (.illegalCommand c)) :
    step s = .next (State.raise .illegalCommand { s with inbox := rest }) := by
  rw [step_of_inbox hs hin, runFrame_of_illegalCommand (f := .cmd8 r) hd]

/-- A step between commands leaves the block between commands (R70, R230). -/
theorem betweenCommands_of_step {s t : State} (hs : BetweenCommands s) (h : step s = .next t) : BetweenCommands t := by
  rcases step_effect_of_between hs h with rfl | ⟨r, rest, _, ⟨i, hi, he⟩ | rfl⟩
  · exact hs
  · exact betweenCommands_of_effect hi (s := { s with inbox := rest }) hs he
  · exact (State.raise_micro _ _).trans hs

/-- Settles O5: a request decodes to one of the six commands or to none, and the number of a stage is in no request. -/
theorem noPartOfACommandIsIssuable : Obligations.NoPartOfACommandIsIssuable := by
  refine ⟨fun s hs => ⟨?_, fun t => betweenCommands_of_step hs⟩, fun n i payload hd h20 h21 h30 =>
    decodeRequest_of_unassigned (stage_number_unassigned hd h20 h21 h30) payload⟩
  rcases step_of_between hs with hwait | ⟨r, rest, hin, hrun⟩
  · exact .inl hwait
  · refine .inr ⟨r, rest, hin, ?_⟩
    rcases decodeRequest_cases r with ⟨i, hd⟩ | hd | ⟨hr, hd⟩
    · refine .inl ⟨i, isCommand_of_encode (encode_of_decodeRequest hd), hd, ?_⟩
      rw [hrun, runFrame_of_decode_ok (f := .cmd8 r) hd]
    · exact .inr (.inl ⟨hd, step_of_illegalCommand hs hin hd⟩)
    · refine .inr (.inr ⟨hr, ?_⟩)
      have hd' : decode (.cmd8 r) = .error (.payloadShape r.code) := hd
      simp only [hrun, runFrame, hd', rejectFrame]

/-- Settles O7: the four ranges of R84 hold no code of R81, and `IllegalCommand` is raised, or refused. -/
theorem unassignedCodesFaultIllegalCommand : Obligations.UnassignedCodesFaultIllegalCommand := by
  intro s c payload rest hs hrange hin
  have hc : c.toNat ∉ commandCodes := by
    simp only [commandCodes, List.mem_cons, List.not_mem_nil, or_false]
    omega
  rw [step_of_illegalCommand hs hin (decodeRequest_of_unassigned hc payload)]
  exact ⟨fun hf => congrArg _ (raise_eq_faultedWith (s := { s with inbox := rest }) hf _),
    fun hf => congrArg _ (raise_of_faulted (s := { s with inbox := rest }) hf _)⟩

/-- Settles O10: a step waits, or serves the first request and leaves the others on the list. -/
theorem presentableRequestsNeverStop : Obligations.PresentableRequestsNeverStop := by
  intro s hs hall
  cases hin : s.inbox with
  | nil =>
    rcases step_of_between hs with ⟨_, hwait⟩ | ⟨r, rest, hcons, _⟩
    · exact ⟨s, hwait, hs, hall⟩
    · rw [hin] at hcons
      cases hcons
  | cons r rest =>
    obtain ⟨hr, hrest⟩ := List.forall_mem_cons.mp (hin ▸ hall : ∀ x ∈ r :: rest, Presentable x)
    have hstep : step s = .next (withInbox (serve s r) rest) := by
      rw [← step_serves hr hs rest, ← hin, withInbox_self]
    exact ⟨_, hstep, serve_betweenCommands hr hs, hrest⟩

/-! ### Every instruction completes -/

theorem IgnoresInbox.completes {f : State → StepResult} (h : IgnoresInbox f) (s : State) : ∃ t, f s = .next t := by
  obtain ⟨t, ht⟩ := h s
  exact ⟨withInbox t s.inbox, ht s.inbox⟩

theorem latch_completes {α : Type} (value : Except Cause α) (s : State) (write : α → State) :
    ∃ t, latch value s write = .next t := by
  rcases latch_cases value s write with ⟨v, _, h⟩ | ⟨k, _, h⟩
  · exact ⟨_, h⟩
  · exact ⟨_, h⟩

/-- No arm of `exec` stops: a command answers, a micro-operation latches its field or raises, a stage writes. -/
theorem exec_completes (i : Instr) (s : State) : ∃ t, exec i s = .next t := by
  cases i with
  | reset | rdreg | decodeCal | ldsample | unpack | compensate => exact (exec_ignoresInbox rfl).completes s
  | decT1 | decT2 | decT3 | decP1 | decP2 | decP3 | decP4 | decP5 | decP6 | decP7 | decP8 | decP9 | decH1 | decH2
  | decH3 | decH4 | decH5 | decH6 | unpP | unpT | unpH => exact latch_completes _ s _
  | tVar1 | tVar2 | tFine | tCenti | tFahr | pA1 | pB1 | pB2 | pB3 | pA2 | pDen | pGuard | pQ1 | pC1 | pC2 | pPa | pHpa
  | hG | hA | hB | hC | hD | hE | hF | hClamp => exact ⟨_, rfl⟩

theorem raise_outbox (k : Cause) (s : State) : ∃ r, (s.raise k).outbox = s.outbox ++ [r] := by
  cases hf : s.faulted with
  | true => exact ⟨_, by rw [raise_of_faulted hf, State.respond_outbox]⟩
  | false => exact ⟨_, by rw [raise_of_not_faulted hf]⟩

/-- An instruction adds at most one response (R83). -/
theorem outbox_of_effect {s t : State} {i : Instr} (h : Effect s i t) :
    t.outbox = s.outbox ∨ ∃ r, t.outbox = s.outbox ++ [r] := by
  cases h with
  | answers | resets | session | loadsWords | loadsBlock | compensates => exact .inr ⟨_, rfl⟩
  | raises => exact .inr (raise_outbox _ s)
  | part _ ht => exact .inl ht.outbox

/-- Settles O8: every arm of `exec` answers a next state, and the effect it has there keeps the requests. -/
theorem everyInstructionCompletes : Obligations.EveryInstructionCompletes := by
  intro i s
  obtain ⟨t, ht⟩ := exec_completes i s
  exact ⟨t, ht, inbox_of_effect (exec_effect ht), outbox_of_effect (exec_effect ht)⟩

end Sys2Proof.Proofs
end

section
/-! PROOFS. The two packed fields of CAL3 as integers (spec/30_encoding.md R76, spec/41_calibration_decoder.md R138 to
R140): the patterns that their registers take, read as two's complement. -/

namespace Sys2Proof.Proofs

open Sys2Proof Sys2Proof.Machine Sys2Proof.Safety

/-- A 12-bit register keeps a value of `sext12` (R105). -/
theorem toInt_ofInt_sext12 (x : Int) : (BitVec.ofInt 12 (sext12 x)).toInt = sext12 x := by
  have hrange : -2048 ≤ sext12 x ∧ sext12 x < 2048 := by
    unfold sext12
    split <;> omega
  exact BitVec.toInt_ofInt_eq_self (by omega) (by omega) (by omega)

/-- A sign-extended field is the two's-complement reading of the pattern that its register takes. -/
theorem eq_toInt_of_toReg {field : Except Cause Int} {p : BitVec 12} {x : Int} (hfield : field = .ok (sext12 x))
    (hreg : toReg 12 field = .ok p) : field = .ok p.toInt := by
  subst hfield
  have hp : BitVec.ofInt 12 (sext12 x) = p := Except.ok.inj hreg
  rw [← hp, toInt_ofInt_sext12]

theorem fieldH4_eq_toInt {b : Block} (h : 4 < b.length) :
    fieldH4 b = .ok (byteAt b 3 ++ (byteAt b 4).extractLsb' 0 4 : BitVec 12).toInt := by
  have hfield : fieldH4 b = .ok (sext12 (hi8To12 (byteAt b 3).toInt ||| lowNibble (byteAt b 4).toInt).toInt) := by
    simp [fieldH4, signed8_eq, inBlock, h, show 3 < b.length by omega]
  exact eq_toInt_of_toReg hfield ((toReg_fieldH4 b).trans (if_pos h))

theorem fieldH5_eq_toInt {b : Block} (h : 5 < b.length) :
    fieldH5 b = .ok (byteAt b 5 ++ (byteAt b 4).extractLsb' 4 4 : BitVec 12).toInt := by
  have hfield : fieldH5 b = .ok (sext12 (hi8To12 (byteAt b 5).toInt ||| highNibble (byteAt b 4).toNat).toInt) := by
    simp [fieldH5, signed8_eq, unsigned8_eq, inBlock, h, show 4 < b.length by omega]
  exact eq_toInt_of_toReg hfield ((toReg_fieldH5 b).trans (if_pos h))

/-- A byte above a nibble, in two's complement, is the arithmetic form of R76. -/
theorem toInt_append_nibble (x : Byte) (n : BitVec 4) : (x ++ n : BitVec 12).toInt = 16 * x.toInt + n.toNat := by
  rw [BitVec.toInt_append]
  rfl

theorem toNat_extractLsb'_low (y : Byte) : (y.extractLsb' 0 4).toNat = y.toNat % 16 := by
  rw [BitVec.extractLsb'_toNat, Nat.shiftRight_zero]

theorem toNat_extractLsb'_high (y : Byte) : (y.extractLsb' 4 4).toNat = y.toNat / 16 := by
  rw [BitVec.extractLsb'_toNat, Nat.shiftRight_eq_div_pow]
  exact Nat.mod_eq_of_lt (by omega)

/-- Settles O13: the shift sequence is the 12-bit pattern read as two's complement, and that is the arithmetic form. -/
theorem packedFieldsAgreeInAllForms : Obligations.PackedFieldsAgreeInAllForms := by
  intro b h
  simp only [asSigned_toNat, ← toNat_extractLsb'_low, ← toNat_extractLsb'_high, ← toInt_append_nibble]
  have h4 := fieldH4_eq_toInt (b := b) (by omega)
  have h5 := fieldH5_eq_toInt h
  exact ⟨⟨h4, h4⟩, h5, h5⟩

end Sys2Proof.Proofs
end

section
/-! PROOFS. The integer primitives (spec/40_primitives.md R100 to R106) and the integer path of the temperature in 64 bits
(R110 to R112). -/

namespace Sys2Proof.Proofs

open Sys2Proof Sys2Proof.Machine Sys2Proof.Safety

/-! ### Block reads (R100 to R103) -/

/-- The rules write the two's-complement reading as a case on the unsigned value (R101, R103). -/
theorem toInt_eq_ite_toNat {n : Nat} (x : BitVec (n + 1)) :
    x.toInt = if (x.toNat : Int) ≥ 2 ^ n then (x.toNat : Int) - 2 ^ (n + 1) else x.toNat := by
  rw [← asSigned_toNat, asSigned, Nat.add_sub_cancel]
  simp only [ge_iff_le, ← Int.not_lt, ite_not]

/-- Settles O11: each read is one value inside the block, and the signed value is the unsigned one read as two's
complement. -/
theorem blockPrimitivesReadTheirBytes : Obligations.BlockPrimitivesReadTheirBytes := by
  refine ⟨fun b i h => ?_, fun b i h => ?_, fun b i h => ?_, fun b i h => ?_⟩
  · have hlt := (word16 b i).isLt
    have hread : unsigned16 b i = .ok ((word16 b i).toNat : Int) := by simp [unsigned16_eq, inBlock, h]
    have hsigned : signed16 b i = .ok (word16 b i).toInt := by simp [signed16_eq, inBlock, h]
    refine ⟨?_, ⟨_, hread, by omega, by omega, ?_⟩, _, hsigned, BitVec.le_toInt _, ?_⟩
    · rw [hread, toNat_word16]
      rfl
    · rw [hsigned, toInt_eq_ite_toNat]
      rfl
    · have htop := BitVec.toInt_lt (x := word16 b i)
      omega
  · simp [unsigned16_eq, signed16_eq, inBlock, show ¬ i + 1 < b.length by omega]
  · refine ⟨by simp [unsigned8_eq, inBlock, h], ?_⟩
    have hsigned : signed8 b i = .ok (byteAt b i).toInt := by simp [signed8_eq, inBlock, h]
    rw [hsigned, toInt_eq_ite_toNat]
    split <;> split
    · rfl
    · omega
    · omega
    · rfl
  · simp [unsigned8_eq, signed8_eq, inBlock, show ¬ i < b.length by omega]

/-! ### Sign extension and nibbles (R104 to R106) -/

/-- Left by 24 the byte fills bits 31:24 and keeps its sign, so that right by 20 divides by 2^20 exactly (R104). -/
theorem toInt_hi8To12 {s : Int} (hlow : -128 ≤ s) (hhigh : s ≤ 127) : (hi8To12 s).toInt = 16 * s := by
  have hshift : BitVec.ofInt 32 s <<< 24 = BitVec.ofInt 32 (s * 2 ^ 24) := by
    rw [BitVec.shiftLeft_eq_mul_twoPow, BitVec.ofInt_mul]
    rfl
  have hexact : (BitVec.ofInt 32 (s * 2 ^ 24)).toInt = s * 2 ^ 24 :=
    BitVec.toInt_ofInt_eq_self (by omega) (by omega) (by omega)
  rw [hi8To12, BitVec.toInt_sshiftRight, hshift, hexact, Int.shiftRight_eq_div_pow]
  omega

theorem toNat_lowNibble (b : Byte) : (lowNibble b.toInt).toNat = b.toNat % 16 := by
  have hmask : (0x0F#32).toNat = 2 ^ 4 - 1 := rfl
  rw [lowNibble, BitVec.toNat_and, hmask, Nat.and_two_pow_sub_one_eq_mod, BitVec.toNat_ofInt,
    BitVec.toInt_eq_toNat_cond]
  split <;> omega

theorem toNat_highNibble (b : Byte) : (highNibble b.toNat).toNat = b.toNat / 16 := by
  rw [highNibble, BitVec.toNat_ushiftRight, Nat.shiftRight_eq_div_pow, BitVec.toNat_ofInt]
  omega

theorem sext12_bounds (x : Int) : -2048 ≤ sext12 x ∧ sext12 x ≤ 2047 := by
  unfold sext12
  split <;> omega

theorem sext12_sub_mod (x : Int) : (sext12 x - x) % 4096 = 0 := by
  unfold sext12
  split <;> omega

theorem sext12_of_bounds {x : Int} (hlow : -2048 ≤ x) (hhigh : x ≤ 2047) : sext12 x = x := by
  unfold sext12
  split <;> omega

/-- Settles O12: `sext12` is idempotent because its values are in the range that it leaves alone; 2047 is a value that
the shift pair does not keep. -/
theorem signExtensionAndNibbles : Obligations.SignExtensionAndNibbles := by
  refine ⟨fun s => toInt_hi8To12, fun x => ?_, fun x => sext12_of_bounds, ⟨2047, by decide⟩, fun b => ?_⟩
  · obtain ⟨hlow, hhigh⟩ := sext12_bounds x
    exact ⟨hlow, hhigh, sext12_sub_mod x, sext12_of_bounds hlow hhigh⟩
  · rw [asSigned_toNat]
    exact ⟨toNat_lowNibble b, toNat_highNibble b⟩

/-! ### Operations of `i64` that do not wrap (R110) -/

theorem toInt_asr (x : I64) (n : Nat) : (asr x n).toInt = x.toInt / 2 ^ n := by
  rw [asr, BitVec.toInt_sshiftRight, Int.shiftRight_eq_div_pow]
  rfl

/-- A result whose exact value fits 64 bits is that value (R110). -/
theorem toInt_of_bmod {x : I64} {v : Int} (h : x.toInt = v.bmod (2 ^ 64)) (hlow : -2 ^ 63 ≤ v) (hhigh : v < 2 ^ 63) :
    x.toInt = v := by
  rw [h]
  exact Int.bmod_eq_of_le (by omega) (by omega)

theorem toInt_setWidth_i64 {n : Nat} (x : BitVec n) (hn : n < 64) : (x.setWidth 64).toInt = x.toNat := by
  have hlt : (x.toNat : Int) < 2 ^ 63 := by
    exact_mod_cast x.isLt.trans_le (Nat.pow_le_pow_right (by norm_num) (by omega))
  exact toInt_of_bmod (BitVec.toInt_setWidth x) (by omega) hlt

theorem toInt_signExtend_i64 (x : BitVec 16) : (x.signExtend 64).toInt = x.toInt :=
  BitVec.toInt_signExtend_of_le (by norm_num)

theorem toInt_mem_i16 (x : BitVec 16) : -32768 ≤ x.toInt ∧ x.toInt ≤ 32767 :=
  ⟨BitVec.le_toInt x, Int.le_of_lt_add_one (BitVec.toInt_lt (x := x))⟩

/-! ### The ranges of the products (R111) -/

/-- A product with a 16-bit coefficient is least and greatest at the ends of both ranges. -/
theorem mul_bounds_i16 {a t lo hi : Int} (hlo : lo ≤ a) (hhi : a ≤ hi) (hlo0 : lo ≤ 0) (hhi0 : 0 ≤ hi)
    (ht : -32768 ≤ t ∧ t ≤ 32767) :
    min (-32768 * hi) (32767 * lo) ≤ a * t ∧ a * t ≤ max (-32768 * lo) (32767 * hi) := by
  obtain ⟨htlo, hthi⟩ := ht
  rw [min_le_iff, le_max_iff]
  rcases le_total t 0 with hneg | hpos
  · exact ⟨.inl (by nlinarith), .inl (by nlinarith)⟩
  · exact ⟨.inr (by nlinarith), .inr (by nlinarith)⟩

section
variable (traw : BitVec 20) (t1 t2 t3 : BitVec 16)

/-- `x4` of R111. -/
theorem var1_product_bounds : -4294934528 ≤ ((traw.toNat : Int) / 8 - 2 * t1.toNat) * t2.toInt ∧
    ((traw.toNat : Int) / 8 - 2 * t1.toNat) * t2.toInt ≤ 4294901760 := by
  obtain ⟨hlow, hhigh⟩ := mul_bounds_i16 (a := (traw.toNat : Int) / 8 - 2 * t1.toNat) (lo := -131070) (hi := 131071)
    (by omega) (by omega) (by norm_num) (by norm_num) (toInt_mem_i16 t2)
  exact ⟨le_trans (by norm_num) hlow, hhigh.trans (by norm_num)⟩

/-- `y3` of R111. -/
theorem var2_square_bounds : 0 ≤ ((traw.toNat : Int) / 16 - t1.toNat) ^ 2 ∧
    ((traw.toNat : Int) / 16 - t1.toNat) ^ 2 ≤ 4294836225 := by
  refine ⟨sq_nonneg _, ?_⟩
  have h := sq_le_sq' (a := (traw.toNat : Int) / 16 - t1.toNat) (b := 65535) (by omega) (by omega)
  omega

/-- `y5` of R111. -/
theorem var2_product_bounds :
    -34358689792 ≤ ((traw.toNat : Int) / 16 - t1.toNat) ^ 2 / 4096 * t3.toInt ∧
      ((traw.toNat : Int) / 16 - t1.toNat) ^ 2 / 4096 * t3.toInt ≤ 34357641248 := by
  obtain ⟨hsq0, hsq⟩ := var2_square_bounds traw t1
  obtain ⟨hlow, hhigh⟩ := mul_bounds_i16 (a := ((traw.toNat : Int) / 16 - t1.toNat) ^ 2 / 4096) (lo := 0)
    (hi := 1048544) (by omega) (by omega) (by norm_num) (by norm_num) (toInt_mem_i16 t3)
  exact ⟨le_trans (by norm_num) hlow, hhigh.trans (by norm_num)⟩

/-! ### The stages (R160, R161, R163, R164) -/

theorem toInt_stageVar1 : (stageVar1 traw t1 t2).toInt = var1Int traw.toNat t1.toNat t2.toInt := by
  obtain ⟨hlow, hhigh⟩ := var1_product_bounds traw t1 t2
  have hx1 : (asr (traw.setWidth 64) 3).toInt = (traw.toNat : Int) / 8 := by
    rw [toInt_asr, toInt_setWidth_i64 traw (by norm_num)]
    rfl
  have hx2 : (t1.setWidth 64 <<< 1 : I64).toInt = 2 * t1.toNat := by
    refine toInt_of_bmod (v := 2 * t1.toNat) ?_ (by omega) (by omega)
    have hnat : (t1.setWidth 64).toNat = t1.toNat := BitVec.toNat_setWidth_of_le (by norm_num)
    rw [BitVec.toInt_shiftLeft, hnat, Nat.shiftLeft_eq, Nat.mul_comm]
    rfl
  have hx3 : (asr (traw.setWidth 64) 3 - t1.setWidth 64 <<< 1 : I64).toInt = (traw.toNat : Int) / 8 - 2 * t1.toNat := by
    exact toInt_of_bmod (by rw [BitVec.toInt_sub, hx1, hx2]) (by omega) (by omega)
  have hx4 : ((asr (traw.setWidth 64) 3 - t1.setWidth 64 <<< 1) * t2.signExtend 64 : I64).toInt =
      ((traw.toNat : Int) / 8 - 2 * t1.toNat) * t2.toInt :=
    toInt_of_bmod (by rw [BitVec.toInt_mul, hx3, toInt_signExtend_i64]) (by omega) (by omega)
  rw [stageVar1, toInt_asr, hx4]
  rfl

theorem toInt_stageVar2 : (stageVar2 traw t1 t3).toInt = var2Int traw.toNat t1.toNat t3.toInt := by
  obtain ⟨hsq0, hsq⟩ := var2_square_bounds traw t1
  obtain ⟨hlow, hhigh⟩ := var2_product_bounds traw t1 t3
  have hy1 : (asr (traw.setWidth 64) 4).toInt = (traw.toNat : Int) / 16 := by
    rw [toInt_asr, toInt_setWidth_i64 traw (by norm_num)]
    rfl
  have hy2 : (asr (traw.setWidth 64) 4 - t1.setWidth 64 : I64).toInt = (traw.toNat : Int) / 16 - t1.toNat := by
    have ht1 := toInt_setWidth_i64 t1 (by norm_num)
    exact toInt_of_bmod (by rw [BitVec.toInt_sub, hy1, ht1]) (by omega) (by omega)
  rw [stageVar2]
  generalize asr (traw.setWidth 64) 4 - t1.setWidth 64 = y2 at *
  rw [← hy2, sq] at hsq0 hsq hlow hhigh
  have hy3 : (y2 * y2).toInt = y2.toInt * y2.toInt := toInt_of_bmod (BitVec.toInt_mul y2 y2) (by omega) (by omega)
  have hy4 : (asr (y2 * y2) 12).toInt = y2.toInt * y2.toInt / 4096 := by
    rw [toInt_asr, hy3]
    rfl
  have hy5 : (asr (y2 * y2) 12 * t3.signExtend 64).toInt = y2.toInt * y2.toInt / 4096 * t3.toInt :=
    toInt_of_bmod (by rw [BitVec.toInt_mul, hy4, toInt_signExtend_i64]) (by omega) (by omega)
  rw [toInt_asr, hy5, var2Int, ← hy2, sq]
  rfl

theorem var1Int_bounds :
    -2097136 ≤ var1Int traw.toNat t1.toNat t2.toInt ∧ var1Int traw.toNat t1.toNat t2.toInt ≤ 2097120 := by
  have h := var1_product_bounds traw t1 t2
  rw [var1Int]
  omega

theorem var2Int_bounds :
    -2097088 ≤ var2Int traw.toNat t1.toNat t3.toInt ∧ var2Int traw.toNat t1.toNat t3.toInt ≤ 2097024 := by
  have h := var2_product_bounds traw t1 t3
  rw [var2Int]
  omega

theorem fineInt_bounds :
    -4194224 ≤ fineInt traw.toNat t1.toNat t2.toInt t3.toInt ∧
      fineInt traw.toNat t1.toNat t2.toInt t3.toInt ≤ 4194144 := by
  obtain ⟨h1low, h1high⟩ := var1Int_bounds traw t1 t2
  obtain ⟨h2low, h2high⟩ := var2Int_bounds traw t1 t3
  rw [fineInt]
  omega

end

theorem toInt_tfineOf (c : TCal) (traw : BitVec 20) :
    (tfineOf c traw).toInt = fineInt traw.toNat c.t1.toNat c.t2.toInt c.t3.toInt := by
  obtain ⟨hlow, hhigh⟩ := fineInt_bounds traw c.t1 c.t2 c.t3
  refine toInt_of_bmod ?_ (by omega) (by omega)
  rw [tfineOf, stageFine, BitVec.toInt_add, toInt_stageVar1, toInt_stageVar2, fineInt]

theorem toInt_stageCenti {tfine : I64} (hlow : -2 ^ 60 ≤ tfine.toInt) (hhigh : tfine.toInt ≤ 2 ^ 60) :
    (stageCenti tfine).toInt = centiInt tfine.toInt := by
  have hmul : (tfine * 5#64).toInt = tfine.toInt * 5 :=
    toInt_of_bmod (BitVec.toInt_mul tfine 5#64) (by omega) (by omega)
  have hadd : (tfine * 5#64 + 128#64).toInt = tfine.toInt * 5 + 128 :=
    toInt_of_bmod (hmul ▸ BitVec.toInt_add (tfine * 5#64) 128#64) (by omega) (by omega)
  rw [stageCenti, toInt_asr, hadd, centiInt, Int.mul_comm]
  rfl

/-! ### `compensate` -/

theorem compensate_tfine (P : Params) (c : Coef) (x : Sample) : (compensate P c x).tfine = tfineOf c.t x.traw := rfl

theorem compensate_tcenti (P : Params) (c : Coef) (x : Sample) :
    (compensate P c x).tcenti = stageCenti (tfineOf c.t x.traw) := rfl

theorem toInt_stageCenti_tfineOf (c : TCal) (traw : BitVec 20) :
    (stageCenti (tfineOf c traw)).toInt = centiInt (fineInt traw.toNat c.t1.toNat c.t2.toInt c.t3.toInt) := by
  obtain ⟨hlow, hhigh⟩ := fineInt_bounds traw c.t1 c.t2 c.t3
  rw [← toInt_tfineOf] at hlow hhigh ⊢
  exact toInt_stageCenti (by omega) (by omega)

/-- Settles O24: no intermediate value leaves 64 bits, so each stage is its floor formula. -/
theorem integerPathIsExact : Obligations.IntegerPathIsExact := fun P c x => by
  rw [compensate_tfine, compensate_tcenti]
  exact ⟨toInt_tfineOf c.t x.traw, toInt_stageCenti_tfineOf c.t x.traw⟩

/-- Settles O25: the ranges of the floor formulas are those of the stages. -/
theorem integerPathStaysInRange : Obligations.IntegerPathStaysInRange := by
  intro P c x
  have hfine := fineInt_bounds x.traw c.t.t1 c.t.t2 c.t.t3
  rw [compensate_tfine, compensate_tcenti, toInt_stageVar1, toInt_stageVar2, toInt_tfineOf, toInt_stageCenti_tfineOf]
  refine ⟨var1Int_bounds .., var2Int_bounds .., hfine, ?_⟩
  rw [centiInt]
  omega

end Sys2Proof.Proofs
end

section
/-! PROOFS. The patterns of binary64 (spec/40_primitives.md R116): their fields, their values as signed integers in units of
2^-1074, and the values that can be represented around a power of two. -/

namespace Sys2Proof.Proofs

open Sys2Proof Sys2Proof.Machine Sys2Proof.Safety Sys2Proof.Machine.Binary64

/-! ### The fields of a pattern -/

theorem isNaN_of_isFinite {x : F64} (h : isFinite x = true) : isNaN x = false := by
  simp_all [isNaN, isFinite]

theorem isInf_of_isFinite {x : F64} (h : isFinite x = true) : isInf x = false := by
  simp_all [isInf, isFinite]

theorem infBits_eq : infBits = 2047 * 2 ^ 52 := rfl

theorem toNat_withSign {m : Nat} (neg : Bool) (hm : m ≤ infBits) :
    (withSign neg m).toNat = if neg then 2 ^ 63 + m else m := by
  rw [infBits_eq] at hm
  rw [withSign, BitVec.toNat_ofNat]
  exact Nat.mod_eq_of_lt (by split <;> omega)

theorem sign_withSign {m : Nat} (neg : Bool) (hm : m ≤ infBits) : sign (withSign neg m) = neg := by
  rw [sign, BitVec.msb_eq_decide, toNat_withSign neg hm]
  rw [infBits_eq] at hm
  cases neg <;> simp; omega

theorem expField_withSign {m : Nat} (neg : Bool) (hm : m ≤ infBits) : expField (withSign neg m) = m / 2 ^ 52 := by
  rw [expField, toNat_withSign neg hm]
  rw [infBits_eq] at hm
  split <;> omega

theorem fracField_withSign {m : Nat} (neg : Bool) (hm : m ≤ infBits) : fracField (withSign neg m) = m % 2 ^ 52 := by
  rw [fracField, toNat_withSign neg hm]
  split <;> omega

theorem isFinite_withSign {m : Nat} (neg : Bool) (hm : m ≤ infBits) :
    isFinite (withSign neg m) = true ↔ m < infBits := by
  rw [isFinite, expField_withSign neg hm, bne_iff_ne]
  rw [infBits_eq] at *
  omega

theorem isNaN_withSign {m : Nat} (neg : Bool) (hm : m ≤ infBits) : isNaN (withSign neg m) = false := by
  rw [isNaN, expField_withSign neg hm, fracField_withSign neg hm]
  rw [infBits_eq] at hm
  simp only [Bool.and_eq_false_imp, beq_iff_eq, bne_eq_false_iff_eq]
  omega

theorem toNat_withSign_mod_two {m : Nat} (neg : Bool) (hm : m ≤ infBits) : (withSign neg m).toNat % 2 = m % 2 := by
  rw [toNat_withSign neg hm]
  split <;> omega

/-- Adding a significand of `k` units of `2^q` to the field of `q` gives the pattern of `k * 2^q`: a subnormal for `q = 0`,
and at `k = 2^53` the carry into the exponent field is the right one. -/
theorem magnitude_withSign {q k : Nat} (neg : Bool) (hm : q * 2 ^ 52 + k ≤ infBits) (hlow : q = 0 ∨ 2 ^ 52 ≤ k)
    (hhigh : k ≤ 2 ^ 53) : magnitude (withSign neg (q * 2 ^ 52 + k)) = k * 2 ^ q := by
  rw [magnitude, expField_withSign neg hm, fracField_withSign neg hm]
  rcases Nat.lt_or_ge k (2 ^ 52) with hsub | hnorm
  · have hq : q = 0 := by omega
    subst hq
    rw [if_pos (by omega)]
    omega
  rcases Nat.lt_or_ge k (2 ^ 53) with hlt | hcarry
  · have hexp : (q * 2 ^ 52 + k) / 2 ^ 52 = q + 1 := by omega
    have hfrac : 2 ^ 52 + (q * 2 ^ 52 + k) % 2 ^ 52 = k := by omega
    rw [hexp, hfrac, if_neg (Nat.succ_ne_zero q), Nat.add_sub_cancel]
  · have hexp : (q * 2 ^ 52 + k) / 2 ^ 52 = q + 2 := by omega
    have hfrac : (q * 2 ^ 52 + k) % 2 ^ 52 = 0 := by omega
    have hk : k = 2 ^ 53 := by omega
    rw [hexp, hfrac, if_neg (by omega), hk]
    show (2 ^ 52 + 0) * 2 ^ (q + 1) = _
    ring

/-! ### Values under a sign -/

/-- An integer under a sign bit. -/
def signedInt (neg : Bool) (n : Int) : Int := if neg then -n else n

theorem scaled_eq (x : F64) : scaled x = signedInt (sign x) (magnitude x) := rfl

theorem natAbs_signedInt (neg : Bool) (n : Int) : (signedInt neg n).natAbs = n.natAbs := by
  cases neg <;> simp [signedInt]

theorem natAbs_scaled (x : F64) : (scaled x).natAbs = magnitude x := natAbs_signedInt _ _

theorem signedInt_signedInt (s t : Bool) (n : Int) : signedInt s (signedInt t n) = signedInt (s != t) n := by
  cases s <;> cases t <;> simp [signedInt]

theorem signedInt_mul (s t : Bool) (m n : Int) : signedInt s m * signedInt t n = signedInt (s != t) (m * n) := by
  cases s <;> cases t <;> simp [signedInt]

theorem signedInt_mul_right (neg : Bool) (m n : Int) : signedInt neg (m * n) = signedInt neg m * n := by
  cases neg <;> simp [signedInt]

theorem signedInt_lt_zero {n : Int} (neg : Bool) (hn : 0 < n) : decide (signedInt neg n < 0) = neg := by
  cases neg
  · exact decide_eq_false (Int.not_lt.mpr hn.le)
  · exact decide_eq_true (Int.neg_neg_of_pos hn)

theorem signedInt_of_natAbs (x : Int) : signedInt (decide (x < 0)) x.natAbs = x := by
  rcases lt_or_ge x 0 with hneg | hpos
  · simp [signedInt, hneg, abs_of_neg]
  · simp [signedInt, Int.not_lt.mpr hpos, abs_of_nonneg hpos]

theorem signedInt_ne_iff (neg : Bool) (m n : Int) : signedInt neg m ≠ n ↔ m ≠ signedInt neg n := by
  cases neg <;> simp [signedInt, neg_eq_iff_eq_neg]

/-- The distance of a signed value is that of its magnitude from the other value under the same sign. -/
theorem abs_signedInt_mul_sub (neg : Bool) (n u D e : Int) :
    |signedInt neg n * u - D * e| = |n * u - signedInt neg D * e| := by
  cases neg
  · rfl
  · rw [← abs_neg]
    congr 1
    simp only [signedInt, if_true]
    ring

/-! ### The representable values -/

/-- The representable values around `2^q`: from `2^52 * 2^q` on they are multiples of `2^q`. -/
theorem magnitude_multiple_or_lt (d : F64) (q : Nat) :
    (∃ m : Nat, magnitude d = m * 2 ^ q) ∨ (0 < q ∧ magnitude d < 2 ^ 52 * 2 ^ q) := by
  have hfrac : fracField d < 2 ^ 52 := Nat.mod_lt _ (by norm_num)
  rw [magnitude]
  split
  · rcases Nat.eq_zero_or_pos q with rfl | hq
    · exact .inl ⟨_, (Nat.mul_one _).symm⟩
    · exact .inr ⟨hq, Nat.lt_of_lt_of_le hfrac (Nat.le_mul_of_pos_right _ (Nat.two_pow_pos q))⟩
  · rcases Nat.lt_or_ge (expField d - 1) q with hlt | hge
    · refine .inr ⟨by omega, ?_⟩
      have hpow : 2 * 2 ^ (expField d - 1) ≤ 2 ^ q := by
        rw [← Nat.pow_succ']
        exact Nat.pow_le_pow_right (by norm_num) hlt
      nlinarith [Nat.two_pow_pos (expField d - 1)]
    · exact .inl ⟨(2 ^ 52 + fracField d) * 2 ^ (expField d - 1 - q), by
        rw [Nat.mul_assoc, ← Nat.pow_add, Nat.sub_add_cancel hge]⟩

/-- The representable values, on the side of zero that a sign looks to. -/
theorem scaled_multiple_or_lt (neg : Bool) (d : F64) (q : Nat) :
    (∃ m : Int, signedInt neg (scaled d) = m * 2 ^ q) ∨ (0 < q ∧ signedInt neg (scaled d) < 2 ^ 52 * 2 ^ q) := by
  rw [scaled_eq, signedInt_signedInt]
  generalize (neg != sign d) = s
  rcases magnitude_multiple_or_lt d q with ⟨m, hm⟩ | ⟨hq, hlt⟩
  · refine .inl ⟨signedInt s m, ?_⟩
    rw [hm]
    cases s <;> simp [signedInt]
  · refine .inr ⟨hq, lt_of_le_of_lt ?_ (show (magnitude d : Int) < _ by exact_mod_cast hlt)⟩
    unfold signedInt
    split <;> omega

end Sys2Proof.Proofs
end

section
/-! PROOFS. Rounding to nearest, ties to even (spec/40_primitives.md R116): the rounded quotient, the leading exponent, and
what `roundRatio` gives: the correctly rounded value. -/

namespace Sys2Proof.Proofs

open Sys2Proof Sys2Proof.Machine Sys2Proof.Safety Sys2Proof.Machine.Binary64

/-! ### The rounded quotient -/

/-- The rounded quotient is at most half a unit away, and even where it is exactly half a unit away. -/
theorem nearestEven_spec (n : Nat) {d : Nat} (hd : 0 < d) :
    2 * n ≤ (2 * nearestEven n d + 1) * d ∧ 2 * nearestEven n d * d ≤ 2 * n + d ∧
      (2 * n = (2 * nearestEven n d + 1) * d ∨ 2 * nearestEven n d * d = 2 * n + d → nearestEven n d % 2 = 0) := by
  have hdiv := Nat.div_add_mod n d
  have hmod := Nat.mod_lt n hd
  unfold nearestEven
  generalize n / d = x at *
  generalize n % d = r at *
  subst hdiv
  split
  · have hup : (2 * (x + 1) + 1) * d = 2 * (d * x) + 3 * d := by ring
    have hdown : 2 * (x + 1) * d = 2 * (d * x) + 2 * d := by ring
    omega
  · have hup : (2 * x + 1) * d = 2 * (d * x) + d := by ring
    have hdown : 2 * x * d = 2 * (d * x) := by ring
    omega

theorem div_le_nearestEven (n d : Nat) : n / d ≤ nearestEven n d := by
  unfold nearestEven
  split <;> omega

theorem nearestEven_le_div_succ (n d : Nat) : nearestEven n d ≤ n / d + 1 := by
  unfold nearestEven
  split <;> omega

theorem le_nearestEven {n d j : Nat} (hd : 0 < d) (h : j * d ≤ n) : j ≤ nearestEven n d :=
  ((Nat.le_div_iff_mul_le hd).mpr h).trans (div_le_nearestEven n d)

theorem nearestEven_le {n d j : Nat} (hd : 0 < d) (h : n < j * d) : nearestEven n d ≤ j :=
  (nearestEven_le_div_succ n d).trans ((Nat.div_lt_iff_lt_mul hd).mpr h)

/-- A quotient rounds below an even integer exactly where it lies below the midpoint before it; the midpoint itself rounds
up. -/
theorem nearestEven_lt_iff (n : Nat) {d j : Nat} (hd : 0 < d) (hj : j % 2 = 0) :
    nearestEven n d < j ↔ 2 * n < (2 * j - 1) * d := by
  obtain ⟨hup, hdown, htie⟩ := nearestEven_spec n hd
  generalize nearestEven n d = k at *
  constructor
  · intro hlt
    have hmono : (2 * k + 1) * d ≤ (2 * j - 1) * d := Nat.mul_le_mul_right d (by omega)
    refine lt_of_le_of_ne (hup.trans hmono) fun heq => ?_
    have hk : 2 * k + 1 = 2 * j - 1 := Nat.eq_of_mul_eq_mul_right hd (hmono.antisymm (heq ▸ hup))
    have heven := htie (.inl (by rw [hk, heq]))
    omega
  · intro hlt
    by_contra hge
    have hmono : (2 * j) * d ≤ 2 * k * d := Nat.mul_le_mul_right d (by omega)
    rcases Nat.eq_zero_or_pos j with rfl | hpos
    · simp at hlt
    have hsucc : (2 * j - 1) * d + d = 2 * j * d := by
      rw [← Nat.succ_mul]
      congr 1
      omega
    omega

theorem nearestEven_mul_right (n d : Nat) {c : Nat} (hc : 0 < c) :
    nearestEven (n * c) (d * c) = nearestEven n d := by
  have hrem : 2 * (n * c % (d * c)) = 2 * (n % d) * c := by rw [Nat.mul_mod_mul_right, Nat.mul_assoc]
  simp only [nearestEven, Nat.mul_div_mul_right _ _ hc, hrem, Nat.mul_lt_mul_right hc, Nat.mul_left_inj hc.ne']

theorem nearestEven_zero (d : Nat) : nearestEven 0 d = 0 := by
  rw [nearestEven, Nat.zero_mod, Nat.zero_div, if_neg (by omega)]

theorem nearestEven_mul_left (k : Nat) {d : Nat} (hd : 0 < d) : nearestEven (k * d) d = k := by
  simp [nearestEven, Nat.mul_div_cancel _ hd, hd.ne]

/-- No integer is nearer to the quotient, and where another one is equally near, the rounded quotient is even. -/
theorem nearestEven_nearest (n : Nat) {d : Nat} (hd : 0 < d) (m : Int) :
    |(n : Int) - nearestEven n d * d| ≤ |(n : Int) - m * d| ∧
      (|(n : Int) - nearestEven n d * d| = |(n : Int) - m * d| → (nearestEven n d : Int) ≠ m →
        nearestEven n d % 2 = 0) := by
  obtain ⟨hup, hdown, htie⟩ := nearestEven_spec n hd
  generalize nearestEven n d = k at *
  zify at hup hdown htie hd
  rcases lt_trichotomy m k with hlt | rfl | hgt
  · have hstep : m * d + d ≤ (k : Int) * d := by nlinarith
    grind
  · exact ⟨le_rfl, fun _ hne => absurd rfl hne⟩
  · have hstep : (k : Int) * d + d ≤ m * d := by nlinarith
    grind

/-! ### The leading exponent and the last place -/

/-- `2^(x-y) ≤ num/den` holds for every smaller exponent too. -/
theorem mul_two_pow_le_mono {num den x y x' y' : Nat} (h : den * 2 ^ x ≤ num * 2 ^ y) (hxy : x' + y ≤ x + y') :
    den * 2 ^ x' ≤ num * 2 ^ y' := by
  apply Nat.le_of_mul_le_mul_right _ (Nat.two_pow_pos y)
  calc den * 2 ^ x' * 2 ^ y = den * 2 ^ (x' + y) := by rw [Nat.pow_add, Nat.mul_assoc]
    _ ≤ den * 2 ^ (x + y') := Nat.mul_le_mul_left _ (Nat.pow_le_pow_right (by norm_num) hxy)
    _ = den * 2 ^ x * 2 ^ y' := by rw [Nat.pow_add, Nat.mul_assoc]
    _ ≤ num * 2 ^ y * 2 ^ y' := Nat.mul_le_mul_right _ h
    _ = num * 2 ^ y' * 2 ^ y := Nat.mul_right_comm ..

/-- `2^e ≤ num/den` at the leading exponent `e`, without a negative power. -/
theorem leadExponent_le {num den x y : Nat} (hnum : 0 < num)
    (h : (x : Int) ≤ leadExponent num den + y) : den * 2 ^ x ≤ num * 2 ^ y := by
  have hnlow : 2 ^ num.log2 ≤ num := Nat.log2_self_le hnum.ne'
  have hdhigh : den < 2 ^ (den.log2 + 1) := Nat.lt_log2_self
  unfold leadExponent at h
  dsimp only at h
  split at h
  · next hcond => exact mul_two_pow_le_mono hcond (by omega)
  · calc den * 2 ^ x ≤ 2 ^ (den.log2 + 1) * 2 ^ x := Nat.mul_le_mul_right _ hdhigh.le
      _ ≤ 2 ^ num.log2 * 2 ^ y := by
        rw [← Nat.pow_add, ← Nat.pow_add]
        exact Nat.pow_le_pow_right (by norm_num) (by omega)
      _ ≤ num * 2 ^ y := Nat.mul_le_mul_right _ hnlow

/-- `num/den < 2^(e+1)` at the leading exponent `e`, without a negative power. -/
theorem lt_leadExponent_succ {num den x y : Nat} (hden : 0 < den)
    (h : leadExponent num den + 1 + y ≤ (x : Int)) : num * 2 ^ y < den * 2 ^ x := by
  have hdlow : 2 ^ den.log2 ≤ den := Nat.log2_self_le hden.ne'
  have hnhigh : num < 2 ^ (num.log2 + 1) := Nat.lt_log2_self
  unfold leadExponent at h
  dsimp only at h
  split at h
  · calc num * 2 ^ y < 2 ^ (num.log2 + 1) * 2 ^ y := Nat.mul_lt_mul_of_pos_right hnhigh (Nat.two_pow_pos y)
      _ ≤ 2 ^ den.log2 * 2 ^ x := by
        rw [← Nat.pow_add, ← Nat.pow_add]
        exact Nat.pow_le_pow_right (by norm_num) (by omega)
      _ ≤ den * 2 ^ x := Nat.mul_le_mul_right _ hdlow
  · next hcond => exact Nat.lt_of_not_le fun hle => hcond (mul_two_pow_le_mono hle (by omega))

theorem two_mul_mul_two_pow (n k : Nat) : 2 * (n * 2 ^ k) = n * 2 ^ (k + 1) := by
  rw [Nat.mul_left_comm, Nat.pow_succ']

theorem two_mul_mul_two_pow_le (n : Nat) {k l : Nat} (h : k < l) : 2 * (n * 2 ^ k) ≤ n * 2 ^ l := by
  rw [two_mul_mul_two_pow]
  exact Nat.mul_le_mul_left _ (Nat.pow_le_pow_right (by norm_num) h)

/-- `q` is the place of the last bit kept of the value `a/den`: with units of `2^q` the value has 53 bits before the point,
or fewer only at the least place, that of the subnormals. -/
structure IsUlp (a den q : Nat) : Prop where
  lower : q = 0 ∨ 2 ^ 52 * (den * 2 ^ q) ≤ a
  upper : a < 2 ^ 53 * (den * 2 ^ q)

/-- `roundRatio` rounds the value, in units of 2^-1074, to a multiple of its last place `2^q`. -/
theorem roundRatio_eq (neg : Bool) (num : Nat) {den : Nat} (hden : 0 < den) :
    ∃ q, IsUlp (num * 2 ^ 1074) den q ∧ roundRatio neg num den =
      withSign neg (min (q * 2 ^ 52 + nearestEven (num * 2 ^ 1074) (den * 2 ^ q)) infBits) := by
  rcases Nat.eq_zero_or_pos num with rfl | hnum
  · exact ⟨0, ⟨.inl rfl, by omega⟩, by rw [Nat.zero_mul, Nat.zero_mul, nearestEven_zero]; rfl⟩
  generalize hu : ulpExponent (leadExponent num den) = u
  have hmax : max (leadExponent num den - 52) (-1074) = u := hu
  refine ⟨(u + 1074).toNat, ⟨?_, ?_⟩, ?_⟩
  · rcases le_or_gt (leadExponent num den - 52) (-1074) with hsub | hnorm
    · exact .inl (by omega)
    · refine .inr ?_
      rw [Nat.mul_left_comm, ← Nat.pow_add]
      exact leadExponent_le hnum (by omega)
  · rw [Nat.mul_left_comm, ← Nat.pow_add]
    exact lt_leadExponent_succ hden (by omega)
  · rw [roundRatio, if_neg hnum.ne', hu]
    dsimp only
    have hunits : nearestEven (num * 2 ^ (-u).toNat) (den * 2 ^ u.toNat) =
        nearestEven (num * 2 ^ 1074) (den * 2 ^ (u + 1074).toNat) := by
      rw [← nearestEven_mul_right _ _ (Nat.two_pow_pos (1074 - (-u).toNat)), Nat.mul_assoc, Nat.mul_assoc,
        ← Nat.pow_add, ← Nat.pow_add]
      congr 3 <;> omega
    rw [hunits]

/-! ### Rounding to the last place -/

section
variable {a den q : Nat}

theorem IsUlp.nearestEven_low (h : IsUlp a den q) (hden : 0 < den) :
    q = 0 ∨ 2 ^ 52 ≤ nearestEven a (den * 2 ^ q) :=
  h.lower.imp_right (le_nearestEven (Nat.mul_pos hden (Nat.two_pow_pos q)))

theorem IsUlp.nearestEven_high (h : IsUlp a den q) (hden : 0 < den) : nearestEven a (den * 2 ^ q) ≤ 2 ^ 53 :=
  nearestEven_le (Nat.mul_pos hden (Nat.two_pow_pos q)) h.upper

/-- The pattern is that of a finite value exactly below the midpoint between the largest finite value and the power of two
above it: only at the last place `q = 2045`, which is 2^971, is there something to decide. -/
theorem IsUlp.lt_infBits_iff (h : IsUlp a den q) (hden : 0 < den) :
    q * 2 ^ 52 + nearestEven a (den * 2 ^ q) < infBits ↔ 2 * a < (2 ^ 54 - 1) * (den * 2 ^ 2045) := by
  have hunit : 0 < den * 2 ^ q := Nat.mul_pos hden (Nat.two_pow_pos q)
  have hlow := h.nearestEven_low hden
  have hhigh := h.nearestEven_high hden
  obtain ⟨halow, hahigh⟩ := h
  rw [infBits_eq]
  rcases Nat.lt_trichotomy q 2045 with hlt | rfl | hgt
  · have hstep := two_mul_mul_two_pow_le den hlt
    generalize den * 2 ^ q = unit at *
    generalize den * 2 ^ 2045 = top at *
    omega
  · rw [show 2 ^ 54 - 1 = 2 * 2 ^ 53 - 1 from rfl, ← nearestEven_lt_iff a hunit rfl]
    omega
  · have hstep := two_mul_mul_two_pow_le den hgt
    generalize den * 2 ^ q = unit at *
    generalize den * 2 ^ 2045 = top at *
    omega

/-- Among the values that are multiples of `2^q` or lie below the binade of the last place `q`, none is nearer than the
rounded one. Those below are farther away than the least of the binade, which is itself a multiple of `2^q`. -/
theorem IsUlp.nearest (h : IsUlp a den q) (hden : 0 < den) {D : Int}
    (hD : (∃ m : Int, D = m * 2 ^ q) ∨ (0 < q ∧ D < 2 ^ 52 * 2 ^ q)) :
    |(a : Int) - (nearestEven a (den * 2 ^ q) * 2 ^ q : Nat) * den| ≤ |(a : Int) - D * den| ∧
      (|(a : Int) - (nearestEven a (den * 2 ^ q) * 2 ^ q : Nat) * den| = |(a : Int) - D * den| →
        ((nearestEven a (den * 2 ^ q) * 2 ^ q : Nat) : Int) ≠ D → nearestEven a (den * 2 ^ q) % 2 = 0) := by
  have hnearest := nearestEven_nearest a (Nat.mul_pos hden (Nat.two_pow_pos q))
  have hscale (k : Int) : k * 2 ^ q * den = k * (den * 2 ^ q : Nat) := by push_cast; ring
  generalize nearestEven a (den * 2 ^ q) = k at *
  rw [show ((k * 2 ^ q : Nat) : Int) = k * 2 ^ q by push_cast; rfl, hscale]
  rcases hD with ⟨m, rfl⟩ | ⟨hq, hlt⟩
  · rw [hscale]
    exact ⟨(hnearest m).1, fun heq hne => (hnearest m).2 heq fun hkm => hne (by rw [hkm])⟩
  · have hbound : (2 ^ 52 : Int) * (den * 2 ^ q : Nat) ≤ a := by
      exact_mod_cast h.lower.resolve_left hq.ne'
    have hD : D * den < 2 ^ 52 * (den * 2 ^ q : Nat) := by
      rw [← hscale]
      exact mul_lt_mul_of_pos_right hlt (by exact_mod_cast hden)
    have hcloser : |(a : Int) - 2 ^ 52 * (den * 2 ^ q : Nat)| < |(a : Int) - D * den| := by
      rw [abs_of_nonneg (by omega), abs_of_nonneg (by omega)]
      omega
    have hstrict := (hnearest (2 ^ 52)).1.trans_lt hcloser
    exact ⟨hstrict.le, fun heq _ => absurd heq hstrict.ne⟩

end

/-! ### The result of `roundRatio` -/

theorem roundRatio_eq_withSign (neg : Bool) (num : Nat) {den : Nat} (hden : 0 < den) :
    ∃ m ≤ infBits, roundRatio neg num den = withSign neg m := by
  obtain ⟨q, -, heq⟩ := roundRatio_eq neg num hden
  exact ⟨_, Nat.min_le_right .., heq⟩

theorem roundRatio_zero (neg : Bool) (den : Nat) : roundRatio neg 0 den = withSign neg 0 := if_pos rfl

theorem isNaN_roundRatio (neg : Bool) (num : Nat) {den : Nat} (hden : 0 < den) :
    isNaN (roundRatio neg num den) = false := by
  obtain ⟨m, hm, heq⟩ := roundRatio_eq_withSign neg num hden
  rw [heq, isNaN_withSign neg hm]

theorem sign_roundRatio (neg : Bool) (num : Nat) {den : Nat} (hden : 0 < den) :
    sign (roundRatio neg num den) = neg := by
  obtain ⟨m, hm, heq⟩ := roundRatio_eq_withSign neg num hden
  rw [heq, sign_withSign neg hm]

/-- The midpoint above the largest finite value, in units of 2^-1075 and of 1. -/
theorem overflow_bound_iff (num den : Nat) :
    2 * (num * 2 ^ 1074) < (2 ^ 54 - 1) * (den * 2 ^ 2045) ↔ num < (2 ^ 54 - 1) * 2 ^ 970 * den := by
  have hr : (2 ^ 54 - 1) * (den * 2 ^ 2045) = (2 ^ 54 - 1) * 2 ^ 970 * den * 2 ^ (1074 + 1) := by
    rw [show 2045 = 970 + (1074 + 1) from rfl, pow_add]
    generalize 2 ^ 970 = x
    generalize 2 ^ (1074 + 1) = y
    ring
  rw [two_mul_mul_two_pow, hr, Nat.mul_lt_mul_right (Nat.two_pow_pos _)]

/-- What `roundRatio` gives: an infinity from the overflow threshold on, and below it the value rounded to its last place,
with the parity of the rounded significand. -/
theorem roundRatio_value (neg : Bool) (num : Nat) {den : Nat} (hden : 0 < den) :
    ∃ q, IsUlp (num * 2 ^ 1074) den q ∧
      (isFinite (roundRatio neg num den) = true ↔ num < (2 ^ 54 - 1) * 2 ^ 970 * den) ∧
      (isFinite (roundRatio neg num den) = true →
        scaled (roundRatio neg num den) =
          signedInt neg (nearestEven (num * 2 ^ 1074) (den * 2 ^ q) * 2 ^ q : Nat) ∧
        (roundRatio neg num den).toNat % 2 = nearestEven (num * 2 ^ 1074) (den * 2 ^ q) % 2) := by
  obtain ⟨q, hulp, heq⟩ := roundRatio_eq neg num hden
  have hlow := hulp.nearestEven_low hden
  have hhigh := hulp.nearestEven_high hden
  have hfin := (hulp.lt_infBits_iff hden).trans (overflow_bound_iff num den)
  refine ⟨q, hulp, ?_⟩
  clear hulp
  generalize nearestEven (num * 2 ^ 1074) (den * 2 ^ q) = k at heq hlow hhigh hfin ⊢
  have hmin : min (q * 2 ^ 52 + k) infBits ≤ infBits := Nat.min_le_right ..
  refine ⟨?_, fun hc => ?_⟩
  · rw [heq, isFinite_withSign neg hmin, ← hfin]
    omega
  · rw [heq, isFinite_withSign neg hmin] at hc
    have hbits : min (q * 2 ^ 52 + k) infBits = q * 2 ^ 52 + k := by omega
    rw [hbits] at heq hmin
    rw [heq, scaled_eq, sign_withSign neg hmin, magnitude_withSign neg hmin hlow hhigh,
      toNat_withSign_mod_two neg hmin]
    exact ⟨rfl, by omega⟩

theorem isFinite_roundRatio_iff (neg : Bool) (num : Nat) {den : Nat} (hden : 0 < den) :
    isFinite (roundRatio neg num den) = true ↔ num < (2 ^ 54 - 1) * 2 ^ 970 * den := by
  obtain ⟨q, -, hfin, -⟩ := roundRatio_value neg num hden
  exact hfin

theorem roundRatio_nearest (neg : Bool) (num : Nat) {den : Nat} (hden : 0 < den)
    (hfin : isFinite (roundRatio neg num den) = true) (d : F64) :
    (signedInt neg num * 2 ^ 1074 - scaled (roundRatio neg num den) * den).natAbs ≤
        (signedInt neg num * 2 ^ 1074 - scaled d * den).natAbs ∧
      ((signedInt neg num * 2 ^ 1074 - scaled (roundRatio neg num den) * den).natAbs =
          (signedInt neg num * 2 ^ 1074 - scaled d * den).natAbs →
        scaled (roundRatio neg num den) ≠ scaled d → (roundRatio neg num den).toNat % 2 = 0) := by
  obtain ⟨q, hulp, -, hval⟩ := roundRatio_value neg num hden
  obtain ⟨hscaled, hparity⟩ := hval hfin
  have hnearest := hulp.nearest hden (scaled_multiple_or_lt neg d q)
  rw [hscaled, hparity, ← Int.ofNat_le, ← Int.natCast_inj, Int.natCast_natAbs, Int.natCast_natAbs,
    abs_signedInt_mul_sub, abs_signedInt_mul_sub, signedInt_signedInt, signedInt_ne_iff, bne_self_eq_false]
  simp only [Nat.cast_mul, Nat.cast_pow, Nat.cast_ofNat] at hnearest ⊢
  exact hnearest

theorem roundsTo_roundRatio (neg : Bool) (num : Nat) {den : Nat} (hden : 0 < den) :
    RoundsTo (signedInt neg num) den (roundRatio neg num den) := by
  refine ⟨isNaN_roundRatio neg num hden, ?_, fun hfin d _ => roundRatio_nearest neg num hden hfin d, fun hinf => ?_⟩
  · rw [isFinite_roundRatio_iff neg num hden, natAbs_signedInt, Int.natAbs_natCast]
  rcases Nat.eq_zero_or_pos num with rfl | hpos
  · have hfin := (isFinite_roundRatio_iff neg 0 hden).mpr (by positivity)
    rw [isInf_of_isFinite hfin] at hinf
    contradiction
  · rw [sign_roundRatio neg num hden, signedInt_lt_zero neg (Int.natCast_pos.mpr hpos)]

end Sys2Proof.Proofs
end

section
/-! PROOFS. The operations, the conversion and the comparisons of binary64 (spec/40_primitives.md R116 to R118). -/

namespace Sys2Proof.Proofs

open Sys2Proof Sys2Proof.Machine Sys2Proof.Safety Sys2Proof.Machine.Binary64

/-! ### Operations on finite operands -/

/-- `negate` changes the sign bit alone. -/
theorem toNat_negate_mod (x : F64) : (negate x).toNat % 2 ^ 63 = x.toNat % 2 ^ 63 := by
  rw [negate, BitVec.toNat_xor, Nat.xor_mod_two_pow]
  exact Nat.xor_zero _

theorem expField_negate (x : F64) : expField (negate x) = expField x := by
  have h := toNat_negate_mod x
  unfold expField
  omega

theorem fracField_negate (x : F64) : fracField (negate x) = fracField x := by
  have h := toNat_negate_mod x
  unfold fracField
  omega

theorem isFinite_negate (x : F64) : isFinite (negate x) = isFinite x := by
  rw [isFinite, expField_negate, isFinite]

theorem sign_negate (x : F64) : sign (negate x) = !sign x := by
  rw [sign, negate, BitVec.msb_xor, sign]
  exact Bool.xor_true _

theorem scaled_negate (x : F64) : scaled (negate x) = -scaled x := by
  have hmag : magnitude (negate x) = magnitude x := by simp only [magnitude, expField_negate, fracField_negate]
  rw [scaled_eq, scaled_eq, sign_negate, hmag]
  cases sign x <;> simp [signedInt]

/-- The sign of a sum: that of the exact sum, and for an exact zero the negative one only where both operands have it. -/
def sumSign (a b : F64) : Bool :=
  if scaled a + scaled b = 0 then sign a && sign b else decide (scaled a + scaled b < 0)

section
variable {a b : F64}

theorem sum_of_isFinite (ha : isFinite a = true) (hb : isFinite b = true) (nan : F64) :
    sum nan a b = roundRatio (sumSign a b) (scaled a + scaled b).natAbs (2 ^ 1074) := by
  rw [sum, if_neg (ne_true_of_eq_false (isInf_of_isFinite ha)), if_neg (ne_true_of_eq_false (isInf_of_isFinite hb)),
    sumSign]
  split
  · next h => rw [h, Int.natAbs_zero, roundRatio_zero]
  · rfl

theorem signedInt_sumSign (a b : F64) : signedInt (sumSign a b) (scaled a + scaled b).natAbs = scaled a + scaled b := by
  unfold sumSign
  split
  · next h => rw [h]; cases (sign a && sign b) <;> rfl
  · exact signedInt_of_natAbs _

theorem add_of_isFinite (ha : isFinite a = true) (hb : isFinite b = true) :
    add a b = roundRatio (sumSign a b) (scaled a + scaled b).natAbs (2 ^ 1074) := by
  rw [add, isNaN_of_isFinite ha, isNaN_of_isFinite hb]
  exact sum_of_isFinite ha hb _

theorem sub_of_isFinite (ha : isFinite a = true) (hb : isFinite b = true) : sub a b = add a (negate b) := by
  have hb' : isFinite (negate b) = true := (isFinite_negate b).trans hb
  rw [sub, isNaN_of_isFinite ha, isNaN_of_isFinite hb, add_of_isFinite ha hb']
  exact sum_of_isFinite ha hb' _

theorem mul_of_isFinite (ha : isFinite a = true) (hb : isFinite b = true) :
    mul a b = roundRatio (sign a != sign b) (magnitude a * magnitude b) (2 ^ 2148) := by
  rw [mul, isNaN_of_isFinite ha, isNaN_of_isFinite hb, isInf_of_isFinite ha, isInf_of_isFinite hb]
  rfl

theorem div_of_isFinite (ha : isFinite a = true) (hb : isFinite b = true) (hne : magnitude b ≠ 0) :
    div a b = roundRatio (sign a != sign b) (magnitude a) (magnitude b) := by
  rw [div, isNaN_of_isFinite ha, isNaN_of_isFinite hb, isInf_of_isFinite ha, isInf_of_isFinite hb, if_neg hne]
  rfl

theorem add_roundsTo (ha : isFinite a = true) (hb : isFinite b = true) :
    RoundsTo (scaled a + scaled b) (2 ^ 1074) (add a b) := by
  rw [add_of_isFinite ha hb]
  conv => arg 1; rw [← signedInt_sumSign]
  exact roundsTo_roundRatio _ _ (pow_pos two_pos 1074)

theorem sign_add_of_sum_eq_zero (ha : isFinite a = true) (hb : isFinite b = true) (h : scaled a + scaled b = 0) :
    sign (add a b) = (sign a && sign b) := by
  rw [add_of_isFinite ha hb, sign_roundRatio _ _ (pow_pos two_pos 1074), sumSign, if_pos h]

theorem sub_roundsTo (ha : isFinite a = true) (hb : isFinite b = true) :
    RoundsTo (scaled a - scaled b) (2 ^ 1074) (sub a b) := by
  have h := add_roundsTo ha ((isFinite_negate b).trans hb)
  rwa [scaled_negate, ← sub_eq_add_neg, ← sub_of_isFinite ha hb] at h

theorem sign_sub_of_difference_eq_zero (ha : isFinite a = true) (hb : isFinite b = true)
    (h : scaled a - scaled b = 0) : sign (sub a b) = (sign a && !sign b) := by
  rw [sub_of_isFinite ha hb, ← sign_negate b]
  exact sign_add_of_sum_eq_zero ha ((isFinite_negate b).trans hb) (by rwa [scaled_negate, ← sub_eq_add_neg])

theorem mul_roundsTo (ha : isFinite a = true) (hb : isFinite b = true) :
    RoundsTo (scaled a * scaled b) (2 ^ 2148) (mul a b) := by
  rw [mul_of_isFinite ha hb, scaled_eq, scaled_eq, signedInt_mul, ← Nat.cast_mul]
  exact roundsTo_roundRatio _ _ (pow_pos two_pos 2148)

theorem sign_mul (ha : isFinite a = true) (hb : isFinite b = true) : sign (mul a b) = (sign a != sign b) := by
  rw [mul_of_isFinite ha hb, sign_roundRatio _ _ (pow_pos two_pos 2148)]

theorem magnitude_pos (h : scaled b ≠ 0) : 0 < magnitude b := by
  rw [← natAbs_scaled]
  exact Int.natAbs_pos.mpr h

theorem div_roundsTo (ha : isFinite a = true) (hb : isFinite b = true) (hne : scaled b ≠ 0) :
    RoundsTo (scaled a * (scaled b).sign) (scaled b).natAbs (div a b) := by
  have hpos := magnitude_pos hne
  have hsign : (scaled b).sign = signedInt (sign b) 1 := by
    rw [scaled_eq]
    cases sign b
    · exact Int.sign_eq_one_of_pos (Int.natCast_pos.mpr hpos)
    · exact Int.sign_eq_neg_one_of_neg (Int.neg_neg_of_pos (Int.natCast_pos.mpr hpos))
  rw [div_of_isFinite ha hb hpos.ne', hsign, scaled_eq a, signedInt_mul, mul_one, natAbs_scaled]
  exact roundsTo_roundRatio _ _ hpos

theorem sign_div (ha : isFinite a = true) (hb : isFinite b = true) (hne : scaled b ≠ 0) :
    sign (div a b) = (sign a != sign b) := by
  rw [div_of_isFinite ha hb (magnitude_pos hne).ne', sign_roundRatio _ _ (magnitude_pos hne)]

end

/-- Settles O27: each operation is `roundRatio` of its exact result, which is correctly rounded. -/
theorem operationsAreCorrectlyRounded : Obligations.OperationsAreCorrectlyRounded := fun _ _ ha hb =>
  ⟨add_roundsTo ha hb, sub_roundsTo ha hb, mul_roundsTo ha hb,
    fun hne => ⟨div_roundsTo ha hb hne, sign_div ha hb hne⟩, sign_mul ha hb,
    sign_add_of_sum_eq_zero ha hb, sign_sub_of_difference_eq_zero ha hb⟩

/-! ### Conversion -/

/-- An integer of at most 53 bits, or 2^53 itself, is a multiple of its last place. -/
theorem two_pow_dvd_of_isUlp {n : Nat} (hn : n ≤ 2 ^ 53) {s q : Nat} (h : IsUlp (n * 2 ^ s) 1 q) :
    2 ^ q ∣ n * 2 ^ s := by
  rcases h.lower with rfl | hlow
  · exact one_dvd _
  rw [Nat.one_mul, ← Nat.pow_add] at hlow
  rcases Nat.lt_or_ge s q with hgt | hle
  · have htop : n = 2 ^ 53 := by
      refine hn.antisymm (Nat.le_of_mul_le_mul_right (le_trans ?_ hlow) (Nat.two_pow_pos s))
      rw [← Nat.pow_add]
      exact Nat.pow_le_pow_right (by norm_num) (by omega)
    rw [htop, ← Nat.pow_add] at hlow ⊢
    have hexp : 52 + q ≤ 53 + s := (Nat.pow_le_pow_iff_right (by norm_num)).mp hlow
    exact Nat.pow_dvd_pow 2 (by omega)
  · exact Dvd.dvd.mul_left (Nat.pow_dvd_pow 2 hle) n

theorem isFinite_roundRatio_of_le (neg : Bool) {n : Nat} (hn : n ≤ 2 ^ 53) : isFinite (roundRatio neg n 1) = true := by
  rw [isFinite_roundRatio_iff neg n Nat.one_pos, Nat.mul_one]
  have hpow : 0 < 2 ^ 970 := pow_pos two_pos 970
  generalize 2 ^ 970 = x at *
  omega

theorem scaled_roundRatio_of_le (neg : Bool) {n : Nat} (hn : n ≤ 2 ^ 53) :
    scaled (roundRatio neg n 1) = signedInt neg (n * 2 ^ 1074 : Nat) := by
  obtain ⟨q, hulp, -, hval⟩ := roundRatio_value neg n Nat.one_pos
  obtain ⟨hscaled, -⟩ := hval (isFinite_roundRatio_of_le neg hn)
  rw [hscaled]
  obtain ⟨k, hk⟩ := exists_eq_mul_left_of_dvd (two_pow_dvd_of_isUlp hn hulp)
  rw [Nat.one_mul, hk, nearestEven_mul_left k (Nat.two_pow_pos q)]

/-- Settles O26: an integer of at most 53 bits is a multiple of its last place, so that rounding keeps it. -/
theorem conversionIsExact : Obligations.ConversionIsExact := by
  intro i hi
  have hofInt : ofInt i = roundRatio (decide (i < 0)) i.natAbs 1 := if_pos hi
  rw [hofInt, scaled_roundRatio_of_le _ hi]
  refine ⟨isFinite_roundRatio_of_le _ hi, ?_⟩
  rw [Nat.cast_mul, Nat.cast_pow, Nat.cast_ofNat, signedInt_mul_right, signedInt_of_natAbs]

/-! ### Comparisons -/

theorem comparisons_false_of_isNaN {x y : F64} (h : isNaN x = true ∨ isNaN y = true) :
    eq x y = false ∧ lt x y = false ∧ gt x y = false := by
  rcases h with h | h <;> simp [eq, lt, gt, h]

theorem comparisons_of_scaled_eq {x y : F64} (hx : isNaN x = false) (hy : isNaN y = false) (h : scaled x = scaled y) :
    eq x y = true ∧ lt x y = false ∧ gt x y = false := by
  simp [eq, lt, gt, hx, hy, h]

/-- Settles O28: both zeros have the value 0, and no comparison with a NaN looks at a value. -/
theorem comparisonsOfZerosAndNaNs : Obligations.ComparisonsOfZerosAndNaNs := by
  have hpos : isNaN 0x0000000000000000#64 = false := by decide
  have hneg : isNaN 0x8000000000000000#64 = false := by decide
  have hzero : scaled 0x0000000000000000#64 = scaled 0x8000000000000000#64 := by decide
  obtain ⟨hpn_eq, hpn_lt, hpn_gt⟩ := comparisons_of_scaled_eq hpos hneg hzero
  obtain ⟨hnp_eq, hnp_lt, hnp_gt⟩ := comparisons_of_scaled_eq hneg hpos hzero.symm
  refine ⟨hpn_eq, hnp_eq, hnp_lt, hpn_lt, hnp_gt, hpn_gt, fun x y h => ?_⟩
  obtain ⟨hxy_eq, hxy_lt, hxy_gt⟩ := comparisons_false_of_isNaN (y := y) (.inl h)
  obtain ⟨hyx_eq, hyx_lt, hyx_gt⟩ := comparisons_false_of_isNaN (x := y) (.inr h)
  exact ⟨hxy_eq, hyx_eq, hxy_lt, hyx_lt, hxy_gt, hyx_gt⟩

end Sys2Proof.Proofs
end

section
/-! PROOFS. The calibration decoder (spec/41_calibration_decoder.md): each DEC micro-operation takes its field and writes
its one register (R120 to R139), DECODE_CAL loses no bit of its blocks (R144), and the order of its micro-operations does
not matter (R145). -/

namespace Sys2Proof.Proofs

open Sys2Proof Sys2Proof.Machine Sys2Proof.Safety

/-! ### The micro-operations and their fields -/

/-- A micro-operation that latches a read takes a field: the value of the read inside the block, `BlockLength` outside
(R52). -/
theorem takesField_of_latch {n : Nat} {op : Block → Instr} {read : Block → Except Cause (BitVec n)} {last : Nat}
    {value : Block → BitVec n} {write : State → BitVec n → State}
    (hexec : ∀ b s, exec (op b) s = latch (read b) s (write s)) (hread : ∀ b, read b = inBlock b last (value b)) :
    TakesField op last value write := fun b s => by
  rw [hexec, hread]
  constructor <;> intro h
  · rw [inBlock, if_pos h]
    rfl
  · rw [inBlock, if_neg (Nat.not_lt.mpr h)]
    rfl

theorem fieldIs_of_eq_inBlock {field : Block → Except Cause Int} {last : Nat} {reading : Block → Int}
    (hfield : ∀ b, field b = inBlock b last (reading b)) : FieldIs field last reading := fun b h =>
  (hfield b).trans (if_pos h)

/-- Settles O14: each micro-operation latches a 16-bit read of CAL1 at its offset. -/
theorem cal1MicroOperationsTakeTheirFields : Obligations.Cal1MicroOperationsTakeTheirFields :=
  ⟨takesField_of_latch (fun _ _ => rfl) (toReg_unsigned16 · 0),
   takesField_of_latch (fun _ _ => rfl) (toReg_signed16 · 2),
   takesField_of_latch (fun _ _ => rfl) (toReg_signed16 · 4),
   takesField_of_latch (fun _ _ => rfl) (toReg_unsigned16 · 6),
   takesField_of_latch (fun _ _ => rfl) (toReg_signed16 · 8),
   takesField_of_latch (fun _ _ => rfl) (toReg_signed16 · 10),
   takesField_of_latch (fun _ _ => rfl) (toReg_signed16 · 12),
   takesField_of_latch (fun _ _ => rfl) (toReg_signed16 · 14),
   takesField_of_latch (fun _ _ => rfl) (toReg_signed16 · 16),
   takesField_of_latch (fun _ _ => rfl) (toReg_signed16 · 18),
   takesField_of_latch (fun _ _ => rfl) (toReg_signed16 · 20),
   takesField_of_latch (fun _ _ => rfl) (toReg_signed16 · 22),
   fieldIs_of_eq_inBlock (unsigned16_eq · 0),
   fieldIs_of_eq_inBlock (signed16_eq · 2),
   fieldIs_of_eq_inBlock (signed16_eq · 4),
   fieldIs_of_eq_inBlock (unsigned16_eq · 6),
   fieldIs_of_eq_inBlock (signed16_eq · 8),
   fieldIs_of_eq_inBlock (signed16_eq · 10),
   fieldIs_of_eq_inBlock (signed16_eq · 12),
   fieldIs_of_eq_inBlock (signed16_eq · 14),
   fieldIs_of_eq_inBlock (signed16_eq · 16),
   fieldIs_of_eq_inBlock (signed16_eq · 18),
   fieldIs_of_eq_inBlock (signed16_eq · 20),
   fieldIs_of_eq_inBlock (signed16_eq · 22)⟩

/-- Settles O15: each micro-operation latches a read of its block; H4 and H5 are the packed fields of R76. -/
theorem humidityMicroOperationsTakeTheirFields : Obligations.HumidityMicroOperationsTakeTheirFields :=
  ⟨takesField_of_latch (fun _ _ => rfl) (toReg_unsigned8 · 0),
   takesField_of_latch (fun _ _ => rfl) (toReg_signed16 · 0),
   takesField_of_latch (fun _ _ => rfl) (toReg_unsigned8 · 2),
   takesField_of_latch (fun _ _ => rfl) toReg_fieldH4,
   takesField_of_latch (fun _ _ => rfl) toReg_fieldH5,
   takesField_of_latch (fun _ _ => rfl) (toReg_signed8 · 6),
   fieldIs_of_eq_inBlock (unsigned8_eq · 0),
   fieldIs_of_eq_inBlock (signed16_eq · 0),
   fieldIs_of_eq_inBlock (unsigned8_eq · 2),
   fun _ => fieldH4_eq_toInt,
   fun _ => fieldH5_eq_toInt,
   fieldIs_of_eq_inBlock (signed8_eq · 6)⟩

/-! ### No bit of the blocks is lost (R144) -/

theorem block_eq_of_byteAt {b c : Block} (hlen : b.length = c.length)
    (h : ∀ i < b.length, byteAt b i = byteAt c i) : b = c := by
  refine List.ext_getElem hlen fun i hb hc => ?_
  have hi := h i hb
  rwa [byteAt, byteAt, List.getD_eq_getElem _ _ hb, List.getD_eq_getElem _ _ hc] at hi

theorem bitVec_append_inj {m n : Nat} {x x' : BitVec m} {y y' : BitVec n} (h : x ++ y = x' ++ y') : x = x' ∧ y = y' := by
  constructor
  · rw [← BitVec.extractLsb'_append_eq_left (a := x) (b := y), h, BitVec.extractLsb'_append_eq_left]
  · rw [← BitVec.extractLsb'_append_eq_right (a := x) (b := y), h, BitVec.extractLsb'_append_eq_right]

/-- A little-endian field holds both its bytes (R75). -/
theorem byteAt_eq_of_word16_eq {b c : Block} {i : Nat} (h : word16 b i = word16 c i) :
    byteAt b i = byteAt c i ∧ byteAt b (i + 1) = byteAt c (i + 1) :=
  (bitVec_append_inj h).symm

theorem block_eq_of_word16 {b c : Block} {n : Nat} (hb : b.length = 2 * n) (hc : c.length = 2 * n)
    (h : ∀ k < n, word16 b (2 * k) = word16 c (2 * k)) : b = c := by
  refine block_eq_of_byteAt (hb.trans hc.symm) fun i hi => ?_
  obtain ⟨heven, hodd⟩ := byteAt_eq_of_word16_eq (h (i / 2) (by omega))
  rcases Nat.mod_two_eq_zero_or_one i with hmod | hmod
  · rwa [show 2 * (i / 2) = i by omega] at heven
  · rwa [show 2 * (i / 2) + 1 = i by omega] at hodd

/-- Byte 4 of CAL3, whose nibbles H4 and H5 share (R76). -/
theorem byte_eq_of_nibbles {x y : Byte} (hlow : x.extractLsb' 0 4 = y.extractLsb' 0 4)
    (hhigh : x.extractLsb' 4 4 = y.extractLsb' 4 4) : x = y := by
  have hmod := congrArg BitVec.toNat hlow
  have hdiv := congrArg BitVec.toNat hhigh
  rw [toNat_extractLsb'_low, toNat_extractLsb'_low] at hmod
  rw [toNat_extractLsb'_high, toNat_extractLsb'_high] at hdiv
  exact BitVec.eq_of_toNat_eq (by omega)

/-- T1 to T3 and P1 to P9 are the twelve words of CAL1 (R71, R75). -/
theorem cal1_eq_of_recordOf_eq {b24 b1 b7 c24 c1 c7 : Block} (hb : b24.length = 24) (hc : c24.length = 24)
    (h : recordOf b24 b1 b7 = recordOf c24 c1 c7) : b24 = c24 := by
  simp only [recordOf, Coef.mk.injEq, TCal.mk.injEq, PCal.mk.injEq] at h
  obtain ⟨⟨ht1, ht2, ht3⟩, ⟨hp1, hp2, hp3, hp4, hp5, hp6, hp7, hp8, hp9⟩, -⟩ := h
  refine block_eq_of_word16 (n := 12) hb hc fun k hk => ?_
  interval_cases k <;> assumption

theorem cal2_eq_of_recordOf_eq {b24 b1 b7 c24 c1 c7 : Block} (hb : b1.length = 1) (hc : c1.length = 1)
    (h : recordOf b24 b1 b7 = recordOf c24 c1 c7) : b1 = c1 := by
  have hh1 : byteAt b1 0 = byteAt c1 0 := congrArg (·.h.h1) h
  refine block_eq_of_byteAt (hb.trans hc.symm) fun i hi => ?_
  rwa [show i = 0 by omega]

/-- H2 to H6 hold the seven bytes of CAL3, byte 4 by its nibbles (R73, R76). -/
theorem cal3_eq_of_recordOf_eq {b24 b1 b7 c24 c1 c7 : Block} (hb : b7.length = 7) (hc : c7.length = 7)
    (h : recordOf b24 b1 b7 = recordOf c24 c1 c7) : b7 = c7 := by
  simp only [recordOf, Coef.mk.injEq, HCal.mk.injEq] at h
  obtain ⟨-, -, -, hh2, hbyte2, hh4, hh5, hbyte6⟩ := h
  obtain ⟨hbyte0, hbyte1⟩ := byteAt_eq_of_word16_eq hh2
  obtain ⟨hbyte3, hlow4⟩ := bitVec_append_inj hh4
  obtain ⟨hbyte5, hhigh4⟩ := bitVec_append_inj hh5
  have hbyte4 := byte_eq_of_nibbles hlow4 hhigh4
  refine block_eq_of_byteAt (hb.trans hc.symm) fun i hi => ?_
  rw [hb] at hi
  interval_cases i <;> assumption

/-- Settles O17: on the right lengths decoding gives the record of the blocks, whose fields hold every byte. -/
theorem decodeCalibrationIsTotalAndInjective : Obligations.DecodeCalibrationIsTotalAndInjective := by
  refine ⟨fun b24 b1 b7 h24 h1 h7 => ⟨recordOf b24 b1 b7, ?_⟩, fun b24 b1 b7 hlen => ?_,
    fun b24 b1 b7 c24 c1 c7 hb24 hb1 hb7 hc24 hc1 hc7 h => ?_⟩
  · rw [decodeCalibration_eq, if_pos ⟨h24, h1, h7⟩]
  · rw [decodeCalibration_eq, if_neg (by omega)]
  · rw [decodeCalibration_eq, decodeCalibration_eq, if_pos ⟨hb24, hb1, hb7⟩, if_pos ⟨hc24, hc1, hc7⟩] at h
    have hrecord : recordOf b24 b1 b7 = recordOf c24 c1 c7 := Except.ok.inj h
    exact ⟨cal1_eq_of_recordOf_eq hb24 hc24 hrecord, cal2_eq_of_recordOf_eq hb1 hc1 hrecord,
      cal3_eq_of_recordOf_eq hb7 hc7 hrecord⟩

/-! ### The micro-operations in any order (R145) -/

/-- A register part way through a decoding: its new value where its micro-operation is among those done, else its old
one. -/
def pick {α : Type} (done : List Instr) (i : Instr) (new old : α) : α := if i ∈ done then new else old

theorem pick_of_mem {α : Type} {done : List Instr} {i : Instr} (h : i ∈ done) (new old : α) :
    pick done i new old = new := if_pos h

@[simp] theorem pick_cons_self {α : Type} (done : List Instr) (i : Instr) (new old : α) :
    pick (i :: done) i new old = new := pick_of_mem List.mem_cons_self new old

@[simp] theorem pick_cons_of_ne {α : Type} {i j : Instr} (h : i ≠ j) (done : List Instr) (new old : α) :
    pick (j :: done) i new old = pick done i new old := by
  simp [pick, h]

section
variable (b24 b1 b7 : Block) (done : List Instr) (c : Coef)

/-- COEF `c` after the micro-operations `done` of a decoding of the three blocks, in whatever order they ran. -/
def partlyDecoded : Coef :=
  let new := recordOf b24 b1 b7
  { t :=
      { t1 := pick done (.decT1 b24) new.t.t1 c.t.t1
        t2 := pick done (.decT2 b24) new.t.t2 c.t.t2
        t3 := pick done (.decT3 b24) new.t.t3 c.t.t3 }
    p :=
      { p1 := pick done (.decP1 b24) new.p.p1 c.p.p1
        p2 := pick done (.decP2 b24) new.p.p2 c.p.p2
        p3 := pick done (.decP3 b24) new.p.p3 c.p.p3
        p4 := pick done (.decP4 b24) new.p.p4 c.p.p4
        p5 := pick done (.decP5 b24) new.p.p5 c.p.p5
        p6 := pick done (.decP6 b24) new.p.p6 c.p.p6
        p7 := pick done (.decP7 b24) new.p.p7 c.p.p7
        p8 := pick done (.decP8 b24) new.p.p8 c.p.p8
        p9 := pick done (.decP9 b24) new.p.p9 c.p.p9 }
    h :=
      { h1 := pick done (.decH1 b1) new.h.h1 c.h.h1
        h2 := pick done (.decH2 b7) new.h.h2 c.h.h2
        h3 := pick done (.decH3 b7) new.h.h3 c.h.h3
        h4 := pick done (.decH4 b7) new.h.h4 c.h.h4
        h5 := pick done (.decH5 b7) new.h.h5 c.h.h5
        h6 := pick done (.decH6 b7) new.h.h6 c.h.h6 } }

theorem partlyDecoded_nil : partlyDecoded b24 b1 b7 [] c = c := rfl

theorem partlyDecoded_of_all (hall : ∀ i ∈ decOps b24 b1 b7, i ∈ done) :
    partlyDecoded b24 b1 b7 done c = recordOf b24 b1 b7 := by
  simp only [decOps, List.forall_mem_append, List.forall_mem_cons] at hall
  simp [partlyDecoded, pick_of_mem, hall]

end

@[simp] theorem setT_setCoef (s : State) (c : Coef) (t : TCal) : (s.setCoef c).setT t = s.setCoef { c with t := t } := rfl
@[simp] theorem setP_setCoef (s : State) (c : Coef) (p : PCal) : (s.setCoef c).setP p = s.setCoef { c with p := p } := rfl
@[simp] theorem setH_setCoef (s : State) (c : Coef) (h : HCal) : (s.setCoef c).setH h = s.setCoef { c with h := h } := rfl

theorem exec_of_takesField {n : Nat} {op : Block → Instr} {last : Nat} {value : Block → BitVec n}
    {write : State → BitVec n → State} (h : TakesField op last value write) {b : Block} {s t : State}
    (hlen : last < b.length) (hwrite : write s (value b) = t) : exec (op b) s = .next t := by
  obtain ⟨hin, -⟩ := h b s
  rw [hin hlen, hwrite]

/-- Each of the 18 brings its own register to the new record, and leaves the others as they are. -/
theorem exec_partlyDecoded {b24 b1 b7 : Block} (h24 : b24.length = 24) (h1 : b1.length = 1) (h7 : b7.length = 7)
    {i : Instr} (hi : i ∈ decOps b24 b1 b7) (done : List Instr) (s : State) (c : Coef) :
    exec i (s.setCoef (partlyDecoded b24 b1 b7 done c)) =
      .next (s.setCoef (partlyDecoded b24 b1 b7 (i :: done) c)) := by
  obtain ⟨hT1, hT2, hT3, hP1, hP2, hP3, hP4, hP5, hP6, hP7, hP8, hP9, -⟩ := cal1MicroOperationsTakeTheirFields
  obtain ⟨hH1, hH2, hH3, hH4, hH5, hH6, -⟩ := humidityMicroOperationsTakeTheirFields
  simp only [decOps, List.mem_append, List.mem_cons, List.not_mem_nil, or_false] at hi
  obtain ((rfl | rfl | rfl) | rfl | rfl | rfl | rfl | rfl | rfl | rfl | rfl | rfl) |
    rfl | rfl | rfl | rfl | rfl | rfl := hi
  · exact exec_of_takesField hT1 (by omega) (by simp [partlyDecoded, recordOf])
  · exact exec_of_takesField hT2 (by omega) (by simp [partlyDecoded, recordOf])
  · exact exec_of_takesField hT3 (by omega) (by simp [partlyDecoded, recordOf])
  · exact exec_of_takesField hP1 (by omega) (by simp [partlyDecoded, recordOf])
  · exact exec_of_takesField hP2 (by omega) (by simp [partlyDecoded, recordOf])
  · exact exec_of_takesField hP3 (by omega) (by simp [partlyDecoded, recordOf])
  · exact exec_of_takesField hP4 (by omega) (by simp [partlyDecoded, recordOf])
  · exact exec_of_takesField hP5 (by omega) (by simp [partlyDecoded, recordOf])
  · exact exec_of_takesField hP6 (by omega) (by simp [partlyDecoded, recordOf])
  · exact exec_of_takesField hP7 (by omega) (by simp [partlyDecoded, recordOf])
  · exact exec_of_takesField hP8 (by omega) (by simp [partlyDecoded, recordOf])
  · exact exec_of_takesField hP9 (by omega) (by simp [partlyDecoded, recordOf])
  · exact exec_of_takesField hH1 (by omega) (by simp [partlyDecoded, recordOf])
  · exact exec_of_takesField hH2 (by omega) (by simp [partlyDecoded, recordOf])
  · exact exec_of_takesField hH3 (by omega) (by simp [partlyDecoded, recordOf])
  · exact exec_of_takesField hH4 (by omega) (by simp [partlyDecoded, recordOf])
  · exact exec_of_takesField hH5 (by omega) (by simp [partlyDecoded, recordOf])
  · exact exec_of_takesField hH6 (by omega) (by simp [partlyDecoded, recordOf])

theorem runInstrs_cons {i : Instr} {s t : State} (h : exec i s = .next t) (rest : List Instr) :
    runInstrs (i :: rest) s = runInstrs rest t := by
  rw [runInstrs, h]

/-- What a run of some of the 18 leaves depends on which of them ran, and not on their order. -/
theorem runInstrs_partlyDecoded {b24 b1 b7 : Block} (h24 : b24.length = 24) (h1 : b1.length = 1) (h7 : b7.length = 7)
    {l : List Instr} (hl : ∀ i ∈ l, i ∈ decOps b24 b1 b7) (done : List Instr) (s : State) (c : Coef) :
    runInstrs l (s.setCoef (partlyDecoded b24 b1 b7 done c)) =
      .next (s.setCoef (partlyDecoded b24 b1 b7 (l.reverse ++ done) c)) := by
  induction l generalizing done with
  | nil => rfl
  | cons i rest ih =>
    obtain ⟨hi, hrest⟩ := List.forall_mem_cons.mp hl
    rw [runInstrs_cons (exec_partlyDecoded h24 h1 h7 hi done s c), ih hrest, List.reverse_cons, List.append_assoc,
      List.singleton_append]

/-- Settles O18: when all 18 have run, in whatever order, every register of COEF holds its new value. -/
theorem decMicroOperationsInAnyOrder : Obligations.DecMicroOperationsInAnyOrder := by
  intro b24 b1 b7 l s h24 h1 h7 hperm
  have hrun := runInstrs_partlyDecoded h24 h1 h7 (fun _ hi => hperm.mem_iff.mp hi) [] s s.coef
  have hall : ∀ i ∈ decOps b24 b1 b7, i ∈ l.reverse ++ [] := fun i hi => by simpa using hperm.mem_iff.mpr hi
  rwa [partlyDecoded_nil, partlyDecoded_of_all b24 b1 b7 _ s.coef hall] at hrun

end Sys2Proof.Proofs
end

section
/-! PROOFS. The raw sample (spec/42_sample_unpack.md): each UNP micro-operation takes its field of MEAS (R150 to R152),
LDSAMPLE and UNPACK load a whole sample or fault (R154 to R156), and every sample is the unpacking of some block
(R153). -/

namespace Sys2Proof.Proofs

open Sys2Proof Sys2Proof.Machine Sys2Proof.Safety

/-! ### The micro-operations and their fields -/

/-- Settles O19: each micro-operation latches its read of MEAS. -/
theorem unpackMicroOperationsTakeTheirFields : Obligations.UnpackMicroOperationsTakeTheirFields :=
  ⟨takesField_of_latch (fun _ _ => rfl) (field20_eq · 0),
   takesField_of_latch (fun _ _ => rfl) (field20_eq · 3),
   takesField_of_latch (fun _ _ => rfl) fieldHraw_eq⟩

/-! ### The commands -/

/-- The end of a command that loads a sample, in the terms of the statements (R154, R155). -/
theorem succeed_loadSample (s : State) (x : Sample) :
    succeed .none (s.loadSample x) =
      .next (answered { s with sample := x, status := s.status ||| 0x02#8 } .none) := rfl

theorem sampleTooWide_eq_true {p v h : BitVec 32} :
    sampleTooWide p v h = true ↔ 2 ^ 20 ≤ p.toNat ∨ 2 ^ 20 ≤ v.toNat ∨ 2 ^ 16 ≤ h.toNat := by
  simp [sampleTooWide, or_assoc]

/-- Settles O20: behind the gate of the FAULTED state LDSAMPLE turns on the widths of its words, and words that fit are
kept as they are. -/
theorem ldsampleLoadsOrFaults : Obligations.LdsampleLoadsOrFaults := by
  intro p t h s
  have hexec : exec (.ldsample p t h) s = execLdsample p t h s := rfl
  rw [hexec, execLdsample]
  refine ⟨fun hf => unlessFaulted_of_faulted hf _, fun hf hwide => ?_, fun hf hp ht hh => ?_⟩
  · rw [unlessFaulted_of_not_faulted hf, if_pos (sampleTooWide_eq_true.mpr hwide), raise_eq_faultedWith hf]
    rfl
  · have hfits : sampleTooWide p t h = false := sampleTooWide_eq_false.mpr ⟨hp, ht, hh⟩
    refine ⟨⟨p.setWidth 20, t.setWidth 20, h.setWidth 16⟩, toNat_setWidth_of_lt hp, toNat_setWidth_of_lt ht,
      toNat_setWidth_of_lt hh, ?_⟩
    rw [unlessFaulted_of_not_faulted hf, if_neg (Bool.eq_false_iff.mp hfits), succeed_loadSample]

/-- Settles O21: behind the gate of the FAULTED state UNPACK turns on the length of its block alone. -/
theorem unpackLoadsOrFaults : Obligations.UnpackLoadsOrFaults := by
  intro m s
  have hexec : exec (.unpack m) s = execUnpack m s := rfl
  rw [hexec, execUnpack, unpackSample_eq]
  refine ⟨fun hf => unlessFaulted_of_faulted hf _, fun hf hlen => ?_, fun hf hlen => ?_⟩
  · rw [unlessFaulted_of_not_faulted hf, if_neg hlen]
    exact congrArg _ (raise_eq_faultedWith hf .blockLength)
  · rw [unlessFaulted_of_not_faulted hf, if_pos hlen]
    exact succeed_loadSample s (sampleOf m)

/-! ### `unpack_sample` (R153) -/

/-- A block whose unpacking is the given sample: the fields byte by byte, each 20-bit one above a low nibble of 0 (R74,
R77). -/
def blockOfSample (x : Sample) : Block :=
  [x.praw.extractLsb' 12 8, x.praw.extractLsb' 4 8, x.praw.extractLsb' 0 4 ++ 0#4,
   x.traw.extractLsb' 12 8, x.traw.extractLsb' 4 8, x.traw.extractLsb' 0 4 ++ 0#4,
   x.hraw.extractLsb' 8 8, x.hraw.extractLsb' 0 8]

/-- The three bytes of a 20-bit field, put together again, are the field, whatever fills the low nibble (R77). -/
theorem field20_reassembled (v : BitVec 20) (n : BitVec 4) :
    v.extractLsb' 12 8 ++ v.extractLsb' 4 8 ++ (v.extractLsb' 0 4 ++ n).extractLsb' 4 4 = v := by
  rw [BitVec.extractLsb'_append_eq_left, BitVec.extractLsb'_append_extractLsb'_eq_extractLsb' (by rfl)]
  exact BitVec.extractLsb'_append_extractLsb' (w := 16)

theorem sampleOf_blockOfSample (x : Sample) : sampleOf (blockOfSample x) = x := by
  have hp : word20 (blockOfSample x) 0 = x.praw := field20_reassembled x.praw 0
  have ht : word20 (blockOfSample x) 3 = x.traw := field20_reassembled x.traw 0
  have hh : byteAt (blockOfSample x) 6 ++ byteAt (blockOfSample x) 7 = x.hraw :=
    BitVec.extractLsb'_append_extractLsb' (w := 8)
  rw [sampleOf, hp, ht, hh]

/-- The part of byte 2 or 5 of MEAS that its field takes is its upper nibble (R77, R78). -/
theorem highNibble_eq_of_ushiftRight_eq {x y : Byte} (h : x >>> 4 = y >>> 4) :
    x.extractLsb' 4 4 = y.extractLsb' 4 4 := by
  rw [← BitVec.setWidth_ushiftRight_eq_extractLsb, h, BitVec.setWidth_ushiftRight_eq_extractLsb]

theorem sampleOf_of_highNibbles (m0 m1 m3 m4 m6 m7 : Byte) {m2 m5 n2 n5 : Byte}
    (h2 : m2.extractLsb' 4 4 = n2.extractLsb' 4 4) (h5 : m5.extractLsb' 4 4 = n5.extractLsb' 4 4) :
    sampleOf [m0, m1, m2, m3, m4, m5, m6, m7] = sampleOf [m0, m1, n2, m3, m4, n5, m6, m7] := by
  simp [sampleOf, word20, byteAt, h2, h5]

/-- Settles O22: on 8 bytes unpacking gives the fields of MEAS, which reach every sample and see only the upper nibbles
of bytes 2 and 5. -/
theorem unpackSampleIsOnto : Obligations.UnpackSampleIsOnto := by
  refine ⟨fun m hlen => ⟨sampleOf m, ?_⟩, fun m hlen => ?_, fun x => ⟨blockOfSample x, rfl, ?_⟩,
    fun m0 m1 m2 m3 m4 m5 m6 m7 n2 n5 h2 h5 => ?_⟩
  · rw [unpackSample_eq, if_pos hlen]
  · rw [unpackSample_eq, if_neg hlen]
  · rw [unpackSample_eq, sampleOf_blockOfSample]
    rfl
  · rw [unpackSample_eq, unpackSample_eq, sampleOf_of_highNibbles m0 m1 m3 m4 m6 m7
      (highNibble_eq_of_ushiftRight_eq h2) (highNibble_eq_of_ushiftRight_eq h5)]
    rfl

end Sys2Proof.Proofs
end

section
/-! PROOFS. The temperature stages (spec/43_temperature.md): the one value that each writes (R160, R161, R163, R164,
R166). -/

namespace Sys2Proof.Proofs

open Sys2Proof Sys2Proof.Machine Sys2Proof.Safety

/-! ### The stages of Step 1 (R160, R161, R163, R164) -/

theorem exec_tVar1 (s : State) :
    exec .tVar1 s = .next (s.setScratch { s.scratch with tv1 := stageVar1 s.sample.traw s.coef.t.t1 s.coef.t.t2 }) := rfl

theorem exec_tVar2 (s : State) :
    exec .tVar2 s = .next (s.setScratch { s.scratch with tv2 := stageVar2 s.sample.traw s.coef.t.t1 s.coef.t.t3 }) := rfl

theorem exec_tFine (s : State) :
    exec .tFine s = .next (s.setResults { s.results with tfine := s.scratch.tv1 + s.scratch.tv2 }) := rfl

theorem exec_tCenti (s : State) :
    exec .tCenti s = .next (s.setResults { s.results with tcenti := stageCenti s.results.tfine }) := rfl

theorem stageCenti_eq (tfine : I64) : stageCenti tfine = (tfine * 5#64 + 128#64).sshiftRight 8 := rfl

/-! ### The stage of Step 4 (R166) -/

theorem exec_tFahr (s : State) :
    exec .tFahr s = .next (s.setResults { s.results with outF := stageFahr binary64 s.results.tcenti }) := rfl

theorem stageFahr_binary64 (tcenti : I64) : stageFahr binary64 tcenti =
    Binary64.add (Binary64.div (Binary64.mul (Binary64.div (Binary64.ofInt tcenti.toInt) lit100) lit9) lit5) lit32 := by
  rw [stageFahr, binary64_lit_100, binary64_lit_9, binary64_lit_5, binary64_lit_32]
  rfl

/-- Settles O23: each stage updates one field by its stage function, and those functions are the floor formulas, the sum
and the four rounded operations. -/
theorem temperatureStagesComplete : Obligations.TemperatureStagesComplete := by
  refine ⟨fun s => ⟨_, exec_tVar1 s, toInt_stageVar1 ..⟩, fun s => ⟨_, exec_tVar2 s, toInt_stageVar2 ..⟩, exec_tFine,
    fun s => ⟨_, exec_tCenti s, stageCenti_eq _, toInt_stageCenti⟩, fun s => ?_⟩
  rw [exec_tFahr, stageFahr_binary64]
  rfl

end Sys2Proof.Proofs
end

section
/-! PROOFS. Bounds through binary64 arithmetic (spec/40_primitives.md R116): rounding keeps a bound that is a power of
two, so that a chain of operations stays finite where the exponents of its bounds stay below 1024. -/

namespace Sys2Proof.Proofs

open Sys2Proof Sys2Proof.Machine Sys2Proof.Safety Sys2Proof.Machine.Binary64

/-! ### Rounding and powers of two -/

theorem nearestEven_le_of_le {n d j : Nat} (hd : 0 < d) (h : n ≤ j * d) : nearestEven n d ≤ j := by
  rcases h.lt_or_eq with hlt | rfl
  · exact nearestEven_le hd hlt
  · exact (nearestEven_mul_left j hd).le

/-- A power of two is itself a multiple of the last place, or lies below every value with that last place. -/
theorem IsUlp.rounded_le {a den q n : Nat} (h : IsUlp a den q) (hden : 0 < den) (hle : a ≤ 2 ^ n * den) :
    nearestEven a (den * 2 ^ q) * 2 ^ q ≤ 2 ^ n := by
  rcases Nat.le_total q n with hq | hq
  · obtain ⟨p, rfl⟩ := Nat.exists_eq_add_of_le' hq
    rw [pow_add, mul_assoc, mul_comm (2 ^ q) den] at hle
    rw [pow_add]
    exact Nat.mul_le_mul_right _ (nearestEven_le_of_le (Nat.mul_pos hden (Nat.two_pow_pos q)) hle)
  · have hstep : 2 ^ n * den ≤ den * 2 ^ q := by
      rw [mul_comm]
      exact Nat.mul_le_mul_left den (Nat.pow_le_pow_right two_pos hq)
    have hunit : 0 < den * 2 ^ q := Nat.mul_pos hden (Nat.two_pow_pos q)
    obtain rfl : q = 0 := h.lower.resolve_right (by omega)
    obtain rfl : n = 0 := by omega
    rw [pow_zero, mul_one, mul_one]
    exact nearestEven_le_of_le hden (by rwa [pow_zero] at hle)

theorem IsUlp.le_rounded {a den q n : Nat} (h : IsUlp a den q) (hden : 0 < den) (hge : 2 ^ n * den ≤ a) :
    2 ^ n ≤ nearestEven a (den * 2 ^ q) * 2 ^ q := by
  rcases Nat.le_total q n with hq | hq
  · obtain ⟨p, rfl⟩ := Nat.exists_eq_add_of_le' hq
    rw [pow_add, mul_assoc, mul_comm (2 ^ q) den] at hge
    rw [pow_add]
    exact Nat.mul_le_mul_right _ (le_nearestEven (Nat.mul_pos hden (Nat.two_pow_pos q)) hge)
  · have hpos : 0 < nearestEven a (den * 2 ^ q) := by
      rcases h.nearestEven_low hden with rfl | hlow
      · obtain rfl : n = 0 := by omega
        exact le_nearestEven (by omega) (by simpa using hge)
      · omega
    exact (Nat.pow_le_pow_right two_pos hq).trans (Nat.le_mul_of_pos_left _ hpos)

theorem magnitude_roundRatio (neg : Bool) (num : Nat) {den : Nat} (hden : 0 < den)
    (hfin : isFinite (roundRatio neg num den) = true) :
    ∃ q, IsUlp (num * 2 ^ 1074) den q ∧
      magnitude (roundRatio neg num den) = nearestEven (num * 2 ^ 1074) (den * 2 ^ q) * 2 ^ q := by
  obtain ⟨q, hulp, -, hval⟩ := roundRatio_value neg num hden
  obtain ⟨hscaled, -⟩ := hval hfin
  exact ⟨q, hulp, by rw [← natAbs_scaled, hscaled, natAbs_signedInt, Int.natAbs_natCast]⟩

/-! ### Bounds from above -/

/-- At `t = 970` the right side is the overflow threshold: a bound of `2^1023` stays below it. -/
theorem two_pow_lt_of_le_add {e t : Nat} (h : e ≤ 53 + t) : 2 ^ e < (2 ^ 54 - 1) * 2 ^ t := by
  have hpow : 2 ^ e ≤ 2 ^ 53 * 2 ^ t := by
    rw [← pow_add]
    exact Nat.pow_le_pow_right two_pos h
  have hpos := Nat.two_pow_pos t
  omega

/-- Finite, with an absolute value of at most `2^e`. -/
structure AtMost (e : Nat) (x : F64) : Prop where
  finite : isFinite x = true
  magnitude_le : magnitude x ≤ 2 ^ e * 2 ^ 1074

theorem AtMost.mono {e g : Nat} {x : F64} (hx : AtMost e x) (h : e ≤ g) : AtMost g x :=
  ⟨hx.finite, hx.magnitude_le.trans (Nat.mul_le_mul_right _ (Nat.pow_le_pow_right two_pos h))⟩

theorem atMost_roundRatio (neg : Bool) {num den e : Nat} (hden : 0 < den) (he : e ≤ 1023) (h : num ≤ 2 ^ e * den) :
    AtMost e (roundRatio neg num den) := by
  have hfin : isFinite (roundRatio neg num den) = true := by
    rw [isFinite_roundRatio_iff neg num hden]
    exact h.trans_lt (Nat.mul_lt_mul_of_pos_right (two_pow_lt_of_le_add (t := 970) he) hden)
  obtain ⟨q, hulp, hmag⟩ := magnitude_roundRatio neg num hden hfin
  refine ⟨hfin, ?_⟩
  rw [hmag, ← pow_add]
  refine hulp.rounded_le hden ?_
  rw [pow_add, mul_right_comm]
  exact Nat.mul_le_mul_right _ h

/-! ### Bounds from below -/

/-- An absolute value of at least `2^-k`. -/
def AtLeast (k : Nat) (x : F64) : Prop := 2 ^ 1074 ≤ magnitude x * 2 ^ k

theorem AtLeast.magnitude_pos {k : Nat} {x : F64} (h : AtLeast k x) : 0 < magnitude x :=
  Nat.pos_of_mul_pos_right ((pow_pos two_pos 1074).trans_le h)

theorem atLeast_roundRatio (neg : Bool) {num den k : Nat} (hden : 0 < den) (hk : k ≤ 1074)
    (hfin : isFinite (roundRatio neg num den) = true) (h : den ≤ num * 2 ^ k) : AtLeast k (roundRatio neg num den) := by
  obtain ⟨q, hulp, hmag⟩ := magnitude_roundRatio neg num hden hfin
  have hsplit : 2 ^ (1074 - k) * 2 ^ k = 2 ^ 1074 := by rw [← pow_add, Nat.sub_add_cancel hk]
  have hround : 2 ^ (1074 - k) ≤ magnitude (roundRatio neg num den) := by
    rw [hmag]
    refine hulp.le_rounded hden ?_
    rw [← hsplit, mul_comm (2 ^ (1074 - k)) (2 ^ k), ← mul_assoc, mul_comm (2 ^ (1074 - k)) den]
    exact Nat.mul_le_mul_right _ h
  rw [AtLeast, ← hsplit]
  exact Nat.mul_le_mul_right _ hround

/-! ### The operations -/

theorem two_pow_2148 : 2 ^ 2148 = 2 ^ 1074 * 2 ^ 1074 := by rw [← pow_add]

section
variable {a b : F64} {e f j k : Nat}

theorem AtMost.mul (ha : AtMost e a) (hb : AtMost f b) (hmax : e + f ≤ 1023 := by decide) :
    AtMost (e + f) (Binary64.mul a b) := by
  rw [mul_of_isFinite ha.finite hb.finite]
  refine atMost_roundRatio _ (pow_pos two_pos 2148) hmax ?_
  calc magnitude a * magnitude b ≤ 2 ^ e * 2 ^ 1074 * (2 ^ f * 2 ^ 1074) :=
        Nat.mul_le_mul ha.magnitude_le hb.magnitude_le
    _ = 2 ^ (e + f) * 2 ^ 2148 := by rw [two_pow_2148, pow_add]; exact Nat.mul_mul_mul_comm ..

theorem AtMost.add (ha : AtMost e a) (hb : AtMost f b) (hmax : max e f + 1 ≤ 1023 := by decide) :
    AtMost (max e f + 1) (Binary64.add a b) := by
  rw [add_of_isFinite ha.finite hb.finite]
  refine atMost_roundRatio _ (pow_pos two_pos 1074) hmax ?_
  have habs := Int.natAbs_add_le (scaled a) (scaled b)
  have ha' := (ha.mono (le_max_left e f)).magnitude_le
  have hb' := (hb.mono (le_max_right e f)).magnitude_le
  rw [natAbs_scaled, natAbs_scaled] at habs
  rw [Nat.pow_succ', mul_assoc]
  generalize 2 ^ max e f * 2 ^ 1074 = u at *
  omega

theorem AtMost.negate (hb : AtMost f b) : AtMost f (negate b) :=
  ⟨(isFinite_negate b).trans hb.finite, by
    rw [← natAbs_scaled, scaled_negate, Int.natAbs_neg, natAbs_scaled]
    exact hb.magnitude_le⟩

theorem AtMost.sub (ha : AtMost e a) (hb : AtMost f b) (hmax : max e f + 1 ≤ 1023 := by decide) :
    AtMost (max e f + 1) (Binary64.sub a b) := by
  rw [sub_of_isFinite ha.finite hb.finite]
  exact ha.add hb.negate hmax

theorem AtMost.div (ha : AtMost e a) (hb : isFinite b = true) (hlow : AtLeast k b) (hmax : e + k ≤ 1023 := by decide) :
    AtMost (e + k) (Binary64.div a b) := by
  rw [div_of_isFinite ha.finite hb hlow.magnitude_pos.ne']
  refine atMost_roundRatio _ hlow.magnitude_pos hmax ?_
  calc magnitude a ≤ 2 ^ e * 2 ^ 1074 := ha.magnitude_le
    _ ≤ 2 ^ e * (magnitude b * 2 ^ k) := Nat.mul_le_mul_left _ hlow
    _ = 2 ^ (e + k) * magnitude b := by rw [pow_add, mul_left_comm, mul_comm]

theorem magnitude_mul_eq_zero (ha : isFinite a = true) (hb : isFinite b = true)
    (h : magnitude a = 0 ∨ magnitude b = 0) : magnitude (mul a b) = 0 := by
  rw [mul_of_isFinite ha hb, Nat.mul_eq_zero.mpr h, roundRatio_zero]
  cases (sign a != sign b) <;> rfl

theorem AtLeast.mul (ha : isFinite a = true) (hb : isFinite b = true) (hab : isFinite (mul a b) = true)
    (hlow : AtLeast j a) (hlow' : AtLeast k b) (hjk : j + k ≤ 1074) : AtLeast (j + k) (mul a b) := by
  rw [mul_of_isFinite ha hb] at hab ⊢
  refine atLeast_roundRatio _ (pow_pos two_pos 2148) hjk hab ?_
  rw [two_pow_2148]
  calc 2 ^ 1074 * 2 ^ 1074 ≤ magnitude a * 2 ^ j * (magnitude b * 2 ^ k) := Nat.mul_le_mul hlow hlow'
    _ = magnitude a * magnitude b * 2 ^ (j + k) := by rw [pow_add]; exact Nat.mul_mul_mul_comm ..

end

/-! ### Integers and literals -/

section
variable {i : Int} {n e : Nat}

theorem magnitude_ofInt (h : i.natAbs ≤ 2 ^ 53) : magnitude (ofInt i) = i.natAbs * 2 ^ 1074 := by
  have hofInt : ofInt i = roundRatio (decide (i < 0)) i.natAbs 1 := if_pos h
  rw [← natAbs_scaled, hofInt, scaled_roundRatio_of_le _ h, natAbs_signedInt, Int.natAbs_natCast]

theorem atMost_ofInt (h : i.natAbs ≤ 2 ^ e) (he : e ≤ 53 := by decide) : AtMost e (ofInt i) := by
  have h53 : i.natAbs ≤ 2 ^ 53 := h.trans (Nat.pow_le_pow_right two_pos he)
  obtain ⟨hfin, -⟩ := conversionIsExact i h53
  refine ⟨hfin, ?_⟩
  rw [magnitude_ofInt h53]
  gcongr

theorem atLeast_ofInt (h : i.natAbs ≤ 2 ^ 53) (hne : i ≠ 0) : AtLeast 0 (ofInt i) := by
  rw [AtLeast, magnitude_ofInt h, pow_zero, mul_one]
  exact Nat.le_mul_of_pos_left (2 ^ 1074) (Int.natAbs_pos.mpr hne)

theorem atMost_ofInt_toInt {w : Nat} (x : BitVec w) (he : w ≤ 53 := by decide) : AtMost w (ofInt x.toInt) := by
  refine atMost_ofInt ?_ he
  have hlt := x.isLt
  rw [BitVec.toInt_eq_toNat_cond]
  split <;> omega

theorem atMost_ofInt_toNat {w : Nat} (x : BitVec w) (he : w ≤ 53 := by decide) : AtMost w (ofInt x.toNat) :=
  atMost_ofInt (by rw [Int.natAbs_natCast]; exact x.isLt.le) he

theorem atMost_lit (h : n ≤ 2 ^ e := by decide) (he : e ≤ 53 := by decide) : AtMost e (binary64.lit n) :=
  atMost_ofInt (i := n) (by rwa [Int.natAbs_natCast]) he

theorem atLeast_lit (hpos : 0 < n := by decide) (hn : n ≤ 2 ^ 53 := by decide) : AtLeast 0 (binary64.lit n) :=
  atLeast_ofInt (i := n) (by rwa [Int.natAbs_natCast]) (by exact_mod_cast hpos.ne')

theorem AtMost.div_lit {a : F64} (ha : AtMost e a) (hpos : 0 < n := by decide) (hn : n ≤ 2 ^ 53 := by decide)
    (hmax : e ≤ 1023 := by decide) : AtMost e (Binary64.div a (binary64.lit n)) :=
  ha.div (atMost_lit hn).finite (atLeast_lit hpos hn) hmax

end

end Sys2Proof.Proofs
end

section
/-! PROOFS. The pressure (spec/44_pressure.md): the stages (R181 to R192), the zero guard for every PRESS_FN (R187), and
two properties of the default formulas: with P1 = 0 the pressure is +0.0, and neither it nor the Fahrenheit value of
spec/43_temperature.md R166 leaves the finite values (R194). -/

namespace Sys2Proof.Proofs

open Sys2Proof Sys2Proof.Machine Sys2Proof.Safety Sys2Proof.Machine.Binary64

/-! ### The stage functions in binary64 (R181 to R192) -/

theorem stageA1_binary64 (tfine : I64) : stageA1 binary64 tfine =
    Binary64.sub (Binary64.div (ofInt tfine.toInt) (binary64.lit 2)) (binary64.lit 64000) := rfl

theorem stageB1_binary64 (a1 : F64) (p6 : BitVec 16) : stageB1 binary64 a1 p6 =
    Binary64.div (Binary64.mul (Binary64.mul a1 a1) (ofInt p6.toInt)) (binary64.lit 32768) := rfl

theorem stageB2_binary64 (b1 a1 : F64) (p5 : BitVec 16) : stageB2 binary64 b1 a1 p5 =
    Binary64.add b1 (Binary64.mul (Binary64.mul a1 (ofInt p5.toInt)) (binary64.lit 2)) := rfl

theorem stageB3_binary64 (b2 : F64) (p4 : BitVec 16) : stageB3 binary64 b2 p4 =
    Binary64.add (Binary64.div b2 (binary64.lit 4)) (Binary64.mul (ofInt p4.toInt) (binary64.lit 65536)) := rfl

theorem stageA2_binary64 (a1 : F64) (p3 p2 : BitVec 16) : stageA2 binary64 a1 p3 p2 =
    Binary64.div (Binary64.add
      (Binary64.div (Binary64.mul (Binary64.mul (ofInt p3.toInt) a1) a1) (binary64.lit 524288))
      (Binary64.mul (ofInt p2.toInt) a1)) (binary64.lit 524288) := rfl

theorem stageDen_binary64 (a2 : F64) (p1 : BitVec 16) : stageDen binary64 a2 p1 =
    Binary64.mul (Binary64.add (binary64.lit 1) (Binary64.div a2 (binary64.lit 32768))) (ofInt p1.toNat) := rfl

theorem stageQ1_binary64 (praw : BitVec 20) (b3 a3 : F64) : stageQ1 binary64 praw b3 a3 =
    Binary64.div (Binary64.mul (Binary64.sub (Binary64.sub (binary64.lit 1048576) (ofInt praw.toNat))
      (Binary64.div b3 (binary64.lit 4096))) (binary64.lit 6250)) a3 := rfl

theorem stageC1_binary64 (q1 : F64) (p9 : BitVec 16) : stageC1 binary64 q1 p9 =
    Binary64.div (Binary64.mul (Binary64.mul (ofInt p9.toInt) q1) q1) (binary64.lit 2147483648) := rfl

theorem stageC2_binary64 (q1 : F64) (p8 : BitVec 16) : stageC2 binary64 q1 p8 =
    Binary64.div (Binary64.mul q1 (ofInt p8.toInt)) (binary64.lit 32768) := rfl

theorem stagePa_binary64 (q1 c1 c2 : F64) (p7 : BitVec 16) : stagePa binary64 q1 c1 c2 p7 =
    Binary64.add q1 (Binary64.div (Binary64.add (Binary64.add c1 c2) (ofInt p7.toInt)) (binary64.lit 16)) := rfl

theorem stageHpa_binary64 (ppa : F64) : stageHpa binary64 ppa = Binary64.div ppa (binary64.lit 100) := rfl

/-! ### The stages run one by one (R181 to R186, R188 to R192) -/

theorem unlessSkipped_of_fired {s : State} (h : s.scratch.guardFired = true) (write : State) :
    unlessSkipped s write = .next s := by
  simp [unlessSkipped, h]

theorem unlessSkipped_of_not_fired {s : State} (h : s.scratch.guardFired = false) (write : State) :
    unlessSkipped s write = .next write := by
  simp [unlessSkipped, h]

theorem exec_pA1 (s : State) :
    exec .pA1 s = .next (s.setScratch { s.scratch with a1 := stageA1 binary64 s.results.tfine }) := rfl

theorem exec_pB1 (s : State) :
    exec .pB1 s = .next (s.setScratch { s.scratch with b1 := stageB1 binary64 s.scratch.a1 s.coef.p.p6 }) := rfl

theorem exec_pB2 (s : State) : exec .pB2 s =
    .next (s.setScratch { s.scratch with b2 := stageB2 binary64 s.scratch.b1 s.scratch.a1 s.coef.p.p5 }) := rfl

theorem exec_pB3 (s : State) :
    exec .pB3 s = .next (s.setScratch { s.scratch with b3 := stageB3 binary64 s.scratch.b2 s.coef.p.p4 }) := rfl

theorem exec_pA2 (s : State) : exec .pA2 s =
    .next (s.setScratch { s.scratch with a2 := stageA2 binary64 s.scratch.a1 s.coef.p.p3 s.coef.p.p2 }) := rfl

theorem exec_pDen (s : State) :
    exec .pDen s = .next (s.setScratch { s.scratch with a3 := stageDen binary64 s.scratch.a2 s.coef.p.p1 }) := rfl

theorem exec_pQ1 (s : State) : exec .pQ1 s = unlessSkipped s (s.setScratch
    { s.scratch with q1 := stageQ1 binary64 s.sample.praw s.scratch.b3 s.scratch.a3 }) := rfl

theorem exec_pC1 (s : State) : exec .pC1 s = unlessSkipped s (s.setScratch
    { s.scratch with c1 := stageC1 binary64 s.scratch.q1 s.coef.p.p9 }) := rfl

theorem exec_pC2 (s : State) : exec .pC2 s = unlessSkipped s (s.setScratch
    { s.scratch with c2 := stageC2 binary64 s.scratch.q1 s.coef.p.p8 }) := rfl

theorem exec_pPa (s : State) : exec .pPa s = unlessSkipped s (s.setScratch
    { s.scratch with ppa := stagePa binary64 s.scratch.q1 s.scratch.c1 s.scratch.c2 s.coef.p.p7 }) := rfl

theorem exec_pHpa (s : State) :
    exec .pHpa s = .next (s.setResults { s.results with outHpa := stageHpa binary64 s.scratch.ppa }) := rfl

/-- Settles O29: each stage updates one field by its stage function, whose literals are the patterns of the statement;
the four stages after the guard do so where it has not fired, and nothing where it has. -/
theorem pressureStagesComplete : Obligations.PressureStagesComplete := by
  intro s
  refine ⟨?_, ?_, ?_, ?_, ?_, ?_, ?_, fun h => ⟨?_, ?_, ?_, ?_⟩, fun h => ⟨?_, ?_, ?_, ?_⟩⟩
  · rw [exec_pA1, stageA1_binary64, binary64_lit_2, binary64_lit_64000]; rfl
  · rw [exec_pB1, stageB1_binary64, binary64_lit_32768]; rfl
  · rw [exec_pB2, stageB2_binary64, binary64_lit_2]; rfl
  · rw [exec_pB3, stageB3_binary64, binary64_lit_4, binary64_lit_65536]; rfl
  · rw [exec_pA2, stageA2_binary64, binary64_lit_524288]; rfl
  · rw [exec_pDen, stageDen_binary64, binary64_lit_1, binary64_lit_32768]; rfl
  · rw [exec_pHpa, stageHpa_binary64, binary64_lit_100]; rfl
  · rw [exec_pQ1, unlessSkipped_of_not_fired h, stageQ1_binary64, binary64_lit_1048576, binary64_lit_4096,
      binary64_lit_6250]; rfl
  · rw [exec_pC1, unlessSkipped_of_not_fired h, stageC1_binary64, binary64_lit_2147483648]; rfl
  · rw [exec_pC2, unlessSkipped_of_not_fired h, stageC2_binary64, binary64_lit_32768]; rfl
  · rw [exec_pPa, unlessSkipped_of_not_fired h, stagePa_binary64, binary64_lit_16]; rfl
  · rw [exec_pQ1, unlessSkipped_of_fired h]
  · rw [exec_pC1, unlessSkipped_of_fired h]
  · rw [exec_pC2, unlessSkipped_of_fired h]
  · rw [exec_pPa, unlessSkipped_of_fired h]

/-! ### The guard (R187) -/

theorem magnitude_eq_zero_iff (x : F64) :
    magnitude x = 0 ↔ x = 0x0000000000000000#64 ∨ x = 0x8000000000000000#64 := by
  have hlt := x.isLt
  have hzero : magnitude x = 0 ↔ expField x = 0 ∧ fracField x = 0 := by
    unfold magnitude
    split
    · next h => exact (and_iff_right h).symm
    · next h =>
      have hpos : 0 < (2 ^ 52 + fracField x) * 2 ^ (expField x - 1) :=
        Nat.mul_pos (Nat.add_pos_left (by norm_num) _) (Nat.two_pow_pos _)
      exact iff_of_false hpos.ne' fun hfields => h hfields.1
  rw [hzero, expField, fracField, ← BitVec.toNat_inj, ← BitVec.toNat_inj]
  simp only [BitVec.toNat_ofNat]
  omega

theorem isFinite_of_magnitude_eq_zero {x : F64} (h : magnitude x = 0) : isFinite x = true := by
  rcases (magnitude_eq_zero_iff x).mp h with rfl | rfl <;> rfl

/-- By IEEE equality a value is zero exactly where its magnitude is. -/
theorem guardFires_iff (a3 : F64) : guardFires binary64 a3 = true ↔ magnitude a3 = 0 := by
  have hscaled : scaled a3 = 0 ↔ magnitude a3 = 0 := by rw [← Int.natAbs_eq_zero, natAbs_scaled]
  have hfires : guardFires binary64 a3 = true ↔ isNaN a3 = false ∧ scaled a3 = 0 := by
    rw [guardFires, binary64_lit_0, binary64_eq, Binary64.eq]
    have hnan : isNaN 0x0000000000000000#64 = false := by decide
    have hval : scaled 0x0000000000000000#64 = 0 := by decide
    simp [hnan, hval]
  rw [hfires, hscaled]
  exact and_iff_right_of_imp fun h => isNaN_of_isFinite (isFinite_of_magnitude_eq_zero h)

theorem guardedPa_eq (N : Numerics) (F : PressFn) (tfine : I64) (c : PCal) (praw : BitVec 20) :
    guardedPa N F tfine c praw =
      if N.eq (F.den tfine c praw) (N.ofInt 0) = true then N.ofInt 0 else F.pa tfine c praw := rfl

theorem exec_pGuard_of_fires {s : State} (h : guardFires binary64 s.scratch.a3 = true) :
    exec .pGuard s = .next (s.setScratch { s.scratch with guardFired := true, ppa := binary64.lit 0 }) := by
  show execPGuard s = _
  rw [execPGuard, if_pos h]

theorem exec_pGuard_of_not_fires {s : State} (h : ¬guardFires binary64 s.scratch.a3 = true) :
    exec .pGuard s = .next (s.setScratch { s.scratch with guardFired := false }) := by
  show execPGuard s = _
  rw [execPGuard, if_neg h]

/-- Settles O30: the guard fires on magnitude zero, which the two zeros have and no other pattern. -/
theorem guardHoldsForEveryPressFn : Obligations.GuardHoldsForEveryPressFn := by
  have hfires (a3 : F64) : guardFires binary64 a3 = true ↔ a3 = 0x0000000000000000#64 ∨ a3 = 0x8000000000000000#64 :=
    (guardFires_iff a3).trans (magnitude_eq_zero_iff a3)
  refine ⟨guardedPa_eq, hfires, fun s hzero => ?_, fun s hpos hneg => ?_⟩
  · rw [exec_pGuard_of_fires ((hfires _).mpr hzero), binary64_lit_0]
    rfl
  · exact exec_pGuard_of_not_fires fun h => ((hfires _).mp h).elim hpos hneg

/-! ### The output of `compensate` (R192, R166) -/

/-- `pressure` divides what the guard lets through (R192, R193). -/
theorem compensate_outHpa (P : Params) (c : Coef) (x : Sample) : (compensate P c x).outHpa =
    stageHpa P.num (guardedPa P.num P.press (compensate P c x).tfine c.p x.praw) := rfl

/-- Settles O31: the last stage of `pressure` is the division by the literal 100. -/
theorem pressureIsPascalOverHundred : Obligations.PressureIsPascalOverHundred := fun P c x =>
  (compensate_outHpa P c x).trans rfl

theorem compensate_outF (c : Coef) (x : Sample) : (compensate defaultParams c x).outF =
    stageFahr binary64 (compensate defaultParams c x).tcenti := rfl

theorem compensate_outHpa_default (c : Coef) (x : Sample) : (compensate defaultParams c x).outHpa = stageHpa binary64
    (guardedPa binary64 (defaultPress binary64) (compensate defaultParams c x).tfine c.p x.praw) :=
  compensate_outHpa defaultParams c x

section
variable {F : PressFn} {tfine : I64} {c : PCal} {praw : BitVec 20}

theorem guardedPa_of_magnitude_eq_zero (h : magnitude (F.den tfine c praw) = 0) :
    guardedPa binary64 F tfine c praw = 0x0000000000000000#64 := by
  rw [guardedPa, if_pos ((guardFires_iff _).mpr h), binary64_lit_0]

theorem guardedPa_of_magnitude_ne_zero (h : magnitude (F.den tfine c praw) ≠ 0) :
    guardedPa binary64 F tfine c praw = F.pa tfine c praw := by
  rw [guardedPa, if_neg fun hfires => h ((guardFires_iff _).mp hfires)]

end

theorem stageHpa_zero : stageHpa binary64 0x0000000000000000#64 = 0x0000000000000000#64 := by
  have hfin : isFinite (binary64.lit 100) = true := (atMost_lit (e := 7)).finite
  have hlow : AtLeast 0 (binary64.lit 100) := atLeast_lit
  have hzero : magnitude 0x0000000000000000#64 = 0 := rfl
  rw [stageHpa_binary64, div_of_isFinite rfl hfin hlow.magnitude_pos.ne', hzero, roundRatio_zero, binary64_lit_100]
  rfl

/-! ### The denominator of the default formula (R181, R185, R186) -/

theorem defaultPress_den (tfine : I64) (c : PCal) (praw : BitVec 20) : (defaultPress binary64).den tfine c praw =
    stageDen binary64 (stageA2 binary64 (stageA1 binary64 tfine) c.p3 c.p2) c.p1 := rfl

/-- A value that is a multiple of the unit, or below `2^52` units, is at least one unit away from `2^53` units or equal to
that. -/
theorem unit_le_abs_sub {u v : Int} (hu : 0 < u) (hv : (∃ m : Int, v = m * u) ∨ v < 2 ^ 52 * u)
    (hne : 2 ^ 53 * u - v ≠ 0) : u ≤ |2 ^ 53 * u - v| := by
  rcases hv with ⟨m, rfl⟩ | hlt
  · rw [← sub_mul] at hne ⊢
    rw [abs_mul, abs_of_pos hu]
    exact le_mul_of_one_le_left hu.le (Int.one_le_abs (left_ne_zero_of_mul hne))
  · exact le_trans (by omega) (le_abs_self _)

/-- A rounded sum of 1.0 and a binary64 value is zero or at least 2^-53: a value of at least 1/2 is a multiple of 2^-53,
and a smaller one leaves more than 1/2. -/
theorem one_add_eq_zero_or_atLeast {e : Nat} {y : F64} (hy : AtMost e y) (he : e < 1023) :
    magnitude (Binary64.add (binary64.lit 1) y) = 0 ∨ AtLeast 53 (Binary64.add (binary64.lit 1) y) := by
  have hone : AtMost 0 (binary64.lit 1) := atMost_lit
  have hfin := (hone.add hy (by omega)).finite
  rw [add_of_isFinite hone.finite hy.finite] at hfin ⊢
  have hval : scaled (binary64.lit 1) + scaled y = 2 ^ 53 * 2 ^ 1021 - signedInt true (scaled y) := by
    obtain ⟨-, hscaled⟩ := conversionIsExact 1 (by decide)
    have hlit : scaled (binary64.lit 1) = 1 * 2 ^ 1074 := hscaled
    rw [hlit, one_mul, ← pow_add]
    exact (sub_neg_eq_add _ _).symm
  rcases eq_or_ne (scaled (binary64.lit 1) + scaled y) 0 with hzero | hne
  · left
    rw [hzero, Int.natAbs_zero, roundRatio_zero]
    cases sumSign (binary64.lit 1) y <;> rfl
  · right
    refine atLeast_roundRatio _ (pow_pos two_pos 1074) (by norm_num) hfin ?_
    have hunit := unit_le_abs_sub (pow_pos two_pos 1021)
      ((scaled_multiple_or_lt true y 1021).imp_right And.right) (hval ▸ hne)
    rw [← hval, Int.abs_eq_natAbs] at hunit
    have hnat : 2 ^ 1021 ≤ (scaled (binary64.lit 1) + scaled y).natAbs := by exact_mod_cast hunit
    calc 2 ^ 1074 = 2 ^ 1021 * 2 ^ 53 := by rw [← pow_add]
      _ ≤ _ := by gcongr

section
variable {tfine : I64} {a1 a2 a3 b1 b2 b3 q1 c1 c2 ppa : F64}

theorem stageA1_atMost (h : tfine.toInt.natAbs ≤ 2 ^ 23) : AtMost 24 (stageA1 binary64 tfine) := by
  have hfine : AtMost 23 (ofInt tfine.toInt) := atMost_ofInt h
  have hlit : AtMost 16 (binary64.lit 64000) := atMost_lit
  rw [stageA1_binary64]
  exact hfine.div_lit.sub hlit

theorem stageA2_atMost (h : AtMost 24 a1) (p3 p2 : BitVec 16) : AtMost 65 (stageA2 binary64 a1 p3 p2) := by
  rw [stageA2_binary64]
  exact ((((atMost_ofInt_toInt p3).mul h).mul h).div_lit.add ((atMost_ofInt_toInt p2).mul h)).div_lit

/-- The first factor of the denominator. -/
theorem denFactor_atMost (h : AtMost 65 a2) :
    AtMost 66 (Binary64.add (binary64.lit 1) (Binary64.div a2 (binary64.lit 32768))) := by
  have hone : AtMost 0 (binary64.lit 1) := atMost_lit
  exact hone.add h.div_lit

theorem stageDen_atMost (h : AtMost 65 a2) (p1 : BitVec 16) : AtMost 82 (stageDen binary64 a2 p1) := by
  rw [stageDen_binary64]
  exact (denFactor_atMost h).mul (atMost_ofInt_toNat p1)

theorem magnitude_stageDen_zero (h : AtMost 65 a2) : magnitude (stageDen binary64 a2 0) = 0 := by
  have hp1 : AtMost 16 (ofInt (0#16).toNat) := atMost_ofInt_toNat _
  have hzero : magnitude (ofInt 0) = 0 := by rw [magnitude_ofInt (by decide), Int.natAbs_zero, Nat.zero_mul]
  rw [stageDen_binary64]
  exact magnitude_mul_eq_zero (denFactor_atMost h).finite hp1.finite (.inr hzero)

theorem stageDen_eq_zero_or_atLeast (h : AtMost 65 a2) (p1 : BitVec 16) :
    magnitude (stageDen binary64 a2 p1) = 0 ∨ AtLeast 53 (stageDen binary64 a2 p1) := by
  have hfactor := (denFactor_atMost h).finite
  have hp1 : AtMost 16 (ofInt p1.toNat) := atMost_ofInt_toNat p1
  rcases eq_or_ne p1 0 with rfl | hne
  · exact .inl (magnitude_stageDen_zero h)
  rw [stageDen_binary64]
  rcases one_add_eq_zero_or_atLeast (h.div_lit (n := 32768)) (by decide) with hzero | hlow
  · exact .inl (magnitude_mul_eq_zero hfactor hp1.finite (.inl hzero))
  · have hp1ne : p1.toNat ≠ 0 := fun hp1zero => hne (BitVec.eq_of_toNat_eq hp1zero)
    have hp1low : AtLeast 0 (ofInt p1.toNat) := atLeast_ofInt (by omega) (by exact_mod_cast hp1ne)
    exact .inr (hlow.mul hfactor hp1.finite ((denFactor_atMost h).mul hp1).finite hp1low (by decide))

/-! ### The pascal value of the default formula (R182 to R184, R188 to R191) -/

theorem stageB1_atMost (h : AtMost 24 a1) (p6 : BitVec 16) : AtMost 64 (stageB1 binary64 a1 p6) := by
  rw [stageB1_binary64]
  exact ((h.mul h).mul (atMost_ofInt_toInt p6)).div_lit

theorem stageB2_atMost (hb1 : AtMost 64 b1) (ha1 : AtMost 24 a1) (p5 : BitVec 16) :
    AtMost 65 (stageB2 binary64 b1 a1 p5) := by
  have hlit : AtMost 1 (binary64.lit 2) := atMost_lit
  rw [stageB2_binary64]
  exact hb1.add ((ha1.mul (atMost_ofInt_toInt p5)).mul hlit)

theorem stageB3_atMost (h : AtMost 65 b2) (p4 : BitVec 16) : AtMost 66 (stageB3 binary64 b2 p4) := by
  have hlit : AtMost 16 (binary64.lit 65536) := atMost_lit
  rw [stageB3_binary64]
  exact h.div_lit.add ((atMost_ofInt_toInt p4).mul hlit)

theorem stageQ1_atMost (hb3 : AtMost 66 b3) (ha3 : isFinite a3 = true) (hlow : AtLeast 53 a3) (praw : BitVec 20) :
    AtMost 133 (stageQ1 binary64 praw b3 a3) := by
  have hfull : AtMost 20 (binary64.lit 1048576) := atMost_lit
  have hlit : AtMost 13 (binary64.lit 6250) := atMost_lit
  rw [stageQ1_binary64]
  exact (((hfull.sub (atMost_ofInt_toNat praw)).sub hb3.div_lit).mul hlit).div ha3 hlow

theorem stageC1_atMost (h : AtMost 133 q1) (p9 : BitVec 16) : AtMost 282 (stageC1 binary64 q1 p9) := by
  rw [stageC1_binary64]
  exact (((atMost_ofInt_toInt p9).mul h).mul h).div_lit

theorem stageC2_atMost (h : AtMost 133 q1) (p8 : BitVec 16) : AtMost 149 (stageC2 binary64 q1 p8) := by
  rw [stageC2_binary64]
  exact (h.mul (atMost_ofInt_toInt p8)).div_lit

theorem stagePa_atMost (hq1 : AtMost 133 q1) (hc1 : AtMost 282 c1) (hc2 : AtMost 149 c2) (p7 : BitVec 16) :
    AtMost 285 (stagePa binary64 q1 c1 c2 p7) := by
  rw [stagePa_binary64]
  exact hq1.add ((hc1.add hc2).add (atMost_ofInt_toInt p7)).div_lit

theorem stageHpa_atMost {e : Nat} (h : AtMost e ppa) (he : e ≤ 1023) : AtMost e (stageHpa binary64 ppa) := by
  rw [stageHpa_binary64]
  exact h.div_lit (hmax := he)

theorem defaultPa_atMost (h : tfine.toInt.natAbs ≤ 2 ^ 23) (c : PCal) (praw : BitVec 20)
    (hlow : AtLeast 53 (defaultDen binary64 tfine c praw)) : AtMost 285 (defaultPa binary64 tfine c praw) := by
  have ha1 := stageA1_atMost h
  have hb3 := stageB3_atMost (stageB2_atMost (stageB1_atMost ha1 c.p6) ha1 c.p5) c.p4
  have hden := stageDen_atMost (stageA2_atMost ha1 c.p3 c.p2) c.p1
  have hq1 := stageQ1_atMost hb3 hden.finite hlow praw
  exact stagePa_atMost hq1 (stageC1_atMost hq1 c.p9) (stageC2_atMost hq1 c.p8) c.p7

end

/-! ### The default formula (R187, R194) -/

theorem natAbs_tfine_le (c : Coef) (x : Sample) : (compensate defaultParams c x).tfine.toInt.natAbs ≤ 2 ^ 23 := by
  obtain ⟨-, -, ⟨hlow, hhigh⟩, -⟩ := integerPathStaysInRange defaultParams c x
  omega

theorem natAbs_tcenti_le (c : Coef) (x : Sample) : (compensate defaultParams c x).tcenti.toInt.natAbs ≤ 2 ^ 17 := by
  obtain ⟨-, -, -, hlow, hhigh⟩ := integerPathStaysInRange defaultParams c x
  omega

/-- Settles O32: with P1 = 0 the denominator is a finite factor times zero, so that the guard fires. -/
theorem zeroP1GivesZeroPressure : Obligations.ZeroP1GivesZeroPressure := by
  intro c x hp1
  have ha2 := stageA2_atMost (stageA1_atMost (natAbs_tfine_le c x)) c.p.p3 c.p.p2
  have hden : magnitude ((defaultPress binary64).den (compensate defaultParams c x).tfine c.p x.praw) = 0 := by
    rw [defaultPress_den, hp1]
    exact magnitude_stageDen_zero ha2
  rw [compensate_outHpa_default, guardedPa_of_magnitude_eq_zero hden, stageHpa_zero]

theorem stageFahr_atMost {tcenti : I64} (h : tcenti.toInt.natAbs ≤ 2 ^ 17) : AtMost 22 (stageFahr binary64 tcenti) := by
  have hcenti : AtMost 17 (ofInt tcenti.toInt) := atMost_ofInt h
  have hnine : AtMost 4 (binary64.lit 9) := atMost_lit
  have hoffset : AtMost 5 (binary64.lit 32) := atMost_lit
  rw [stageFahr_binary64, ← binary64_lit_100, ← binary64_lit_9, ← binary64_lit_5, ← binary64_lit_32]
  exact (hcenti.div_lit.mul hnine).div_lit.add hoffset

theorem isFinite_outF (c : Coef) (x : Sample) : isFinite (compensate defaultParams c x).outF = true := by
  rw [compensate_outF]
  exact (stageFahr_atMost (natAbs_tcenti_le c x)).finite

theorem isFinite_outHpa (c : Coef) (x : Sample) : isFinite (compensate defaultParams c x).outHpa = true := by
  have hfine := natAbs_tfine_le c x
  rw [compensate_outHpa_default]
  generalize (compensate defaultParams c x).tfine = tfine at *
  have ha2 := stageA2_atMost (stageA1_atMost hfine) c.p.p3 c.p.p2
  have hden := stageDen_eq_zero_or_atLeast ha2 c.p.p1
  rw [← defaultPress_den tfine c.p x.praw] at hden
  by_cases hzero : magnitude ((defaultPress binary64).den tfine c.p x.praw) = 0
  · rw [guardedPa_of_magnitude_eq_zero hzero, stageHpa_zero]
    rfl
  · rw [guardedPa_of_magnitude_ne_zero hzero]
    exact (stageHpa_atMost (defaultPa_atMost hfine c.p x.praw (hden.resolve_left hzero)) (by decide)).finite

/-- Settles O36: the bounds of the stages leave no room for an infinity, and no operation on finite operands, with a
non-zero divisor, gives a NaN. -/
theorem fahrenheitAndPressureAreFinite : Obligations.FahrenheitAndPressureAreFinite := fun c x =>
  ⟨isFinite_outF c x, isFinite_outHpa c x⟩

end Sys2Proof.Proofs
end

section
/-! PROOFS. The humidity (spec/45_humidity.md): the stages (R201 to R207), the clamp for every HUM_FN and in binary64
(R208), and the range of the default formula (R209, R210): its stages stay finite, so that the clamp meets no NaN. -/

namespace Sys2Proof.Proofs

open Sys2Proof Sys2Proof.Machine Sys2Proof.Safety Sys2Proof.Machine.Binary64

/-! ### The stage functions in binary64 (R201 to R207) -/

theorem stageG_binary64 (tfine : I64) : stageG binary64 tfine =
    Binary64.sub (ofInt tfine.toInt) (binary64.lit 76800) := rfl

theorem stageHA_binary64 (hraw : BitVec 16) (h4 h5 : BitVec 12) (g : F64) : stageHA binary64 hraw h4 h5 g =
    Binary64.sub (ofInt hraw.toNat) (Binary64.add (Binary64.mul (ofInt h4.toInt) (binary64.lit 64))
      (Binary64.mul (Binary64.div (ofInt h5.toInt) (binary64.lit 16384)) g)) := rfl

theorem stageHB_binary64 (h3 : BitVec 8) (g : F64) : stageHB binary64 h3 g =
    Binary64.add (binary64.lit 1) (Binary64.mul (Binary64.div (ofInt h3.toNat) (binary64.lit 67108864)) g) := rfl

theorem stageHC_binary64 (h6 : BitVec 8) (g hB : F64) : stageHC binary64 h6 g hB =
    Binary64.add (binary64.lit 1)
      (Binary64.mul (Binary64.mul (Binary64.div (ofInt h6.toInt) (binary64.lit 67108864)) g) hB) := rfl

theorem stageHD_binary64 (h2 : BitVec 16) (hC : F64) : stageHD binary64 h2 hC =
    Binary64.mul (Binary64.div (ofInt h2.toInt) (binary64.lit 65536)) hC := rfl

theorem stageHE_binary64 (hA hD : F64) : stageHE binary64 hA hD = Binary64.mul hA hD := rfl

theorem stageHF_binary64 (hE : F64) (h1 : BitVec 8) : stageHF binary64 hE h1 =
    Binary64.mul hE (Binary64.sub (binary64.lit 1)
      (Binary64.div (Binary64.mul (ofInt h1.toNat) hE) (binary64.lit 524288))) := rfl

/-! ### The stages run one by one (R201 to R208) -/

theorem exec_hG (s : State) :
    exec .hG s = .next (s.setScratch { s.scratch with g := stageG binary64 s.results.tfine }) := rfl

theorem exec_hA (s : State) : exec .hA s = .next (s.setScratch
    { s.scratch with hA := stageHA binary64 s.sample.hraw s.coef.h.h4 s.coef.h.h5 s.scratch.g }) := rfl

theorem exec_hB (s : State) :
    exec .hB s = .next (s.setScratch { s.scratch with hB := stageHB binary64 s.coef.h.h3 s.scratch.g }) := rfl

theorem exec_hC (s : State) : exec .hC s = .next (s.setScratch
    { s.scratch with hC := stageHC binary64 s.coef.h.h6 s.scratch.g s.scratch.hB }) := rfl

theorem exec_hD (s : State) :
    exec .hD s = .next (s.setScratch { s.scratch with hD := stageHD binary64 s.coef.h.h2 s.scratch.hC }) := rfl

theorem exec_hE (s : State) :
    exec .hE s = .next (s.setScratch { s.scratch with hE := stageHE binary64 s.scratch.hA s.scratch.hD }) := rfl

theorem exec_hF (s : State) :
    exec .hF s = .next (s.setScratch { s.scratch with hF := stageHF binary64 s.scratch.hE s.coef.h.h1 }) := rfl

theorem exec_hClamp (s : State) :
    exec .hClamp s = .next (s.setResults { s.results with outPct := stageClamp binary64 s.scratch.hF }) := rfl

/-- Settles O33: each stage updates one field by its stage function, whose literals are the patterns of the
statement. -/
theorem humidityStagesComplete : Obligations.HumidityStagesComplete := by
  intro s
  refine ⟨?_, ?_, ?_, ?_, ?_, ?_, ?_⟩
  · rw [exec_hG, stageG_binary64, binary64_lit_76800]; rfl
  · rw [exec_hA, stageHA_binary64, binary64_lit_64, binary64_lit_16384]; rfl
  · rw [exec_hB, stageHB_binary64, binary64_lit_1, binary64_lit_67108864]; rfl
  · rw [exec_hC, stageHC_binary64, binary64_lit_1, binary64_lit_67108864]; rfl
  · rw [exec_hD, stageHD_binary64, binary64_lit_65536]; rfl
  · rw [exec_hE, stageHE_binary64]; rfl
  · rw [exec_hF, stageHF_binary64, binary64_lit_1, binary64_lit_524288]; rfl

/-! ### The clamp (R208) -/

theorem stageClamp_eq (N : Numerics) (hF : F64) : stageClamp N hF =
    if N.gt hF (N.ofInt 100) = true then N.ofInt 100 else if N.lt hF (N.ofInt 0) = true then N.ofInt 0 else hF := rfl

theorem scaled_lit {n : Nat} (hn : n ≤ 2 ^ 53) : scaled (binary64.lit n) = n * 2 ^ 1074 := by
  obtain ⟨-, hscaled⟩ := conversionIsExact n (by rwa [Int.natAbs_natCast])
  exact hscaled

theorem isNaN_lit {n : Nat} (hn : n ≤ 2 ^ 53) : isNaN (binary64.lit n) = false :=
  isNaN_of_isFinite (atMost_lit hn).finite

theorem gt_lit_iff {n : Nat} (x : F64) (hn : n ≤ 2 ^ 53 := by decide) :
    binary64.gt x (binary64.lit n) = true ↔ isNaN x = false ∧ n * 2 ^ 1074 < scaled x := by
  rw [binary64_gt, gt, isNaN_lit hn, scaled_lit hn]
  simp only [Bool.and_eq_true, Bool.not_eq_true', Bool.not_false, and_true, decide_eq_true_eq]

theorem lt_lit_iff {n : Nat} (x : F64) (hn : n ≤ 2 ^ 53 := by decide) :
    binary64.lt x (binary64.lit n) = true ↔ isNaN x = false ∧ scaled x < n * 2 ^ 1074 := by
  rw [binary64_lt, lt, isNaN_lit hn, scaled_lit hn]
  simp only [Bool.and_eq_true, Bool.not_eq_true', Bool.not_false, and_true, decide_eq_true_eq]

section
variable {hF : F64}

theorem gt_hundred_iff : binary64.gt hF (binary64.lit 100) = true ↔ isNaN hF = false ∧ 100 * 2 ^ 1074 < scaled hF :=
  gt_lit_iff hF

theorem lt_zero_iff : binary64.lt hF (binary64.lit 0) = true ↔ isNaN hF = false ∧ scaled hF < 0 := by
  rw [lt_lit_iff hF, Nat.cast_zero, zero_mul]

theorem stageClamp_of_above (hnan : isNaN hF = false) (h : 100 * 2 ^ 1074 < scaled hF) :
    stageClamp binary64 hF = binary64.lit 100 := by
  rw [stageClamp, if_pos (gt_hundred_iff.mpr ⟨hnan, h⟩)]

theorem stageClamp_of_below (hnan : isNaN hF = false) (h : scaled hF < 0) :
    stageClamp binary64 hF = binary64.lit 0 := by
  have hnotAbove : ¬100 * 2 ^ 1074 < scaled hF := (h.trans (by positivity)).not_gt
  rw [stageClamp, if_neg fun hgt => hnotAbove (gt_hundred_iff.mp hgt).2, if_pos (lt_zero_iff.mpr ⟨hnan, h⟩)]

theorem stageClamp_of_inside (hlow : 0 ≤ scaled hF) (hhigh : scaled hF ≤ 100 * 2 ^ 1074) :
    stageClamp binary64 hF = hF := by
  rw [stageClamp, if_neg fun hgt => hhigh.not_gt (gt_hundred_iff.mp hgt).2,
    if_neg fun hlt => hlow.not_gt (lt_zero_iff.mp hlt).2]

/-- A NaN passes both tests of the clamp. -/
theorem stageClamp_of_isNaN (hnan : isNaN hF = true) : stageClamp binary64 hF = hF := by
  obtain ⟨-, -, hgt⟩ := comparisons_false_of_isNaN (y := binary64.lit 100) (.inl hnan)
  obtain ⟨-, hlt, -⟩ := comparisons_false_of_isNaN (y := binary64.lit 0) (.inl hnan)
  rw [stageClamp, binary64_gt, hgt, binary64_lt, hlt]
  rfl

end

/-- Settles O34: the clamp is its definition's two tests, which in binary64 compare the value of an operand that is no
NaN with the literals' values. -/
theorem clampHoldsForEveryHumFn : Obligations.ClampHoldsForEveryHumFn := by
  refine ⟨fun N F tfine c hraw => stageClamp_eq N (F.unclamped tfine c hraw),
    fun s => ⟨_, exec_hClamp s, stageClamp_of_isNaN, fun hnan h => ?_, fun hnan h => ?_, stageClamp_of_inside⟩⟩
  · rw [stageClamp_of_above hnan h, binary64_lit_100]
  · rw [stageClamp_of_below hnan h, binary64_lit_0]

/-! ### The range of the output (R209, R210) -/

/-- A percentage: finite, and from 0 to 100. -/
structure IsPercentage (x : F64) : Prop where
  finite : isFinite x = true
  nonneg : 0 ≤ scaled x
  le_hundred : scaled x ≤ 100 * 2 ^ 1074

theorem isPercentage_lit {n : Nat} (h : n ≤ 100) : IsPercentage (binary64.lit n) where
  finite := (atMost_lit (e := 7) (h.trans (by decide))).finite
  nonneg := by
    rw [scaled_lit (h.trans (by decide))]
    positivity
  le_hundred := by
    rw [scaled_lit (h.trans (by decide))]
    exact mul_le_mul_of_nonneg_right (by exact_mod_cast h) (by positivity)

theorem isPercentage_stageClamp {hF : F64} (hfin : isFinite hF = true) : IsPercentage (stageClamp binary64 hF) := by
  have hnan := isNaN_of_isFinite hfin
  rcases lt_or_ge (100 * 2 ^ 1074) (scaled hF) with habove | hhigh
  · rw [stageClamp_of_above hnan habove]
    exact isPercentage_lit (le_refl 100)
  rcases lt_or_ge (scaled hF) 0 with hbelow | hlow
  · rw [stageClamp_of_below hnan hbelow]
    exact isPercentage_lit (Nat.zero_le 100)
  · rw [stageClamp_of_inside hlow hhigh]
    exact ⟨hfin, hlow, hhigh⟩

section
variable {tfine : I64} {g hA hB hC hD hE : F64}

theorem stageG_atMost (h : tfine.toInt.natAbs ≤ 2 ^ 23) : AtMost 24 (stageG binary64 tfine) := by
  have hfine : AtMost 23 (ofInt tfine.toInt) := atMost_ofInt h
  have hlit : AtMost 17 (binary64.lit 76800) := atMost_lit
  rw [stageG_binary64]
  exact hfine.sub hlit

theorem stageHA_atMost (h : AtMost 24 g) (hraw : BitVec 16) (h4 h5 : BitVec 12) :
    AtMost 38 (stageHA binary64 hraw h4 h5 g) := by
  have hlit : AtMost 6 (binary64.lit 64) := atMost_lit
  rw [stageHA_binary64]
  exact (atMost_ofInt_toNat hraw).sub
    (((atMost_ofInt_toInt h4).mul hlit).add ((atMost_ofInt_toInt h5).div_lit.mul h))

theorem stageHB_atMost (h : AtMost 24 g) (h3 : BitVec 8) : AtMost 33 (stageHB binary64 h3 g) := by
  have hone : AtMost 0 (binary64.lit 1) := atMost_lit
  rw [stageHB_binary64]
  exact hone.add ((atMost_ofInt_toNat h3).div_lit.mul h)

theorem stageHC_atMost (hg : AtMost 24 g) (hb : AtMost 33 hB) (h6 : BitVec 8) :
    AtMost 66 (stageHC binary64 h6 g hB) := by
  have hone : AtMost 0 (binary64.lit 1) := atMost_lit
  rw [stageHC_binary64]
  exact hone.add (((atMost_ofInt_toInt h6).div_lit.mul hg).mul hb)

theorem stageHD_atMost (h : AtMost 66 hC) (h2 : BitVec 16) : AtMost 82 (stageHD binary64 h2 hC) := by
  rw [stageHD_binary64]
  exact (atMost_ofInt_toInt h2).div_lit.mul h

theorem stageHE_atMost (ha : AtMost 38 hA) (hd : AtMost 82 hD) : AtMost 120 (stageHE binary64 hA hD) := by
  rw [stageHE_binary64]
  exact ha.mul hd

theorem stageHF_atMost (h : AtMost 120 hE) (h1 : BitVec 8) : AtMost 249 (stageHF binary64 hE h1) := by
  have hone : AtMost 0 (binary64.lit 1) := atMost_lit
  rw [stageHF_binary64]
  exact h.mul (hone.sub ((atMost_ofInt_toNat h1).mul h).div_lit)

/-- The chain of R210, each bound rounded up to a power of two. -/
theorem defaultUnclamped_atMost (h : tfine.toInt.natAbs ≤ 2 ^ 23) (c : HCal) (hraw : BitVec 16) :
    AtMost 249 (defaultUnclamped binary64 tfine c hraw) := by
  have hg := stageG_atMost h
  have hc := stageHC_atMost hg (stageHB_atMost hg c.h3) c.h6
  exact stageHF_atMost (stageHE_atMost (stageHA_atMost hg hraw c.h4 c.h5) (stageHD_atMost hc c.h2)) c.h1

end

theorem compensate_outPct (c : Coef) (x : Sample) : (compensate defaultParams c x).outPct =
    stageClamp binary64 (defaultUnclamped binary64 (compensate defaultParams c x).tfine c.h x.hraw) := rfl

/-- Settles O35: the unclamped value is finite for every record and sample, and the clamp brings a finite value into
the range. -/
theorem humidityIsAlwaysAPercentage : Obligations.HumidityIsAlwaysAPercentage := by
  intro c x
  have hfin := (defaultUnclamped_atMost (natAbs_tfine_le c x) c.h x.hraw).finite
  obtain ⟨hfinite, hlow, hhigh⟩ := isPercentage_stageClamp hfin
  rw [compensate_outPct]
  exact ⟨hfinite, hlow, hhigh⟩

end Sys2Proof.Proofs
end

section
/-! PROOFS. The stages of COMPENSATE in any order that respects the dependences (spec/46_commands.md R220, R221): which
values the stages of a run have put in their fields depends on which of them ran, and not on their order. -/

namespace Sys2Proof.Proofs

open Sys2Proof Sys2Proof.Machine Sys2Proof.Safety

/-! ### The dependences -/

/-- The stages from which a stage is reached in at most `n` dependences. -/
def stagesBefore : Nat → Instr → List Instr
  | 0, _ => []
  | n + 1, i => stageNeeds i ++ (stageNeeds i).flatMap (stagesBefore n)

/-- Every stage of the list stands in it beside the stages it needs. -/
def ClosedUnderNeeds (done : List Instr) : Prop := ∀ i ∈ done, ∀ j ∈ stageNeeds i, j ∈ done

theorem closedUnderNeeds_cons {done : List Instr} (h : ClosedUnderNeeds done) {i : Instr}
    (hi : ∀ j ∈ stageNeeds i, j ∈ done) : ClosedUnderNeeds (i :: done) :=
  List.forall_mem_cons.mpr ⟨fun j hj => List.mem_cons_of_mem i (hi j hj),
    fun x hx j hj => List.mem_cons_of_mem i (h x hx j hj)⟩

theorem mem_of_mem_stagesBefore {done : List Instr} (h : ClosedUnderNeeds done) (n : Nat) {i : Instr}
    (hi : ∀ j ∈ stageNeeds i, j ∈ done) : ∀ j ∈ stagesBefore n i, j ∈ done := by
  induction n generalizing i with
  | zero => exact List.forall_mem_nil _
  | succ n ih =>
    refine List.forall_mem_append.mpr ⟨hi, fun j hj => ?_⟩
    obtain ⟨k, hk, hjk⟩ := List.mem_flatMap.mp hj
    exact ih (h k (hi k hk)) j hjk

/-! ### The values that the stages compute -/

/-- What the stages put in the trace scratch for record `c` and sample `x`. The values of P.Q1, P.C1 and P.C2 reach it
only where the guard does not fire, and `ppa` is then P.PA's (R187). -/
def stageValues (c : Coef) (x : Sample) : Scratch :=
  let tfine := tfineOf c.t x.traw
  let a1 := stageA1 binary64 tfine
  let b1 := stageB1 binary64 a1 c.p.p6
  let b2 := stageB2 binary64 b1 a1 c.p.p5
  let b3 := stageB3 binary64 b2 c.p.p4
  let a2 := stageA2 binary64 a1 c.p.p3 c.p.p2
  let a3 := stageDen binary64 a2 c.p.p1
  let q1 := stageQ1 binary64 x.praw b3 a3
  let c1 := stageC1 binary64 q1 c.p.p9
  let c2 := stageC2 binary64 q1 c.p.p8
  let g := stageG binary64 tfine
  let hA := stageHA binary64 x.hraw c.h.h4 c.h.h5 g
  let hB := stageHB binary64 c.h.h3 g
  let hC := stageHC binary64 c.h.h6 g hB
  let hD := stageHD binary64 c.h.h2 hC
  let hE := stageHE binary64 hA hD
  { tv1 := stageVar1 x.traw c.t.t1 c.t.t2, tv2 := stageVar2 x.traw c.t.t1 c.t.t3,
    a1, b1, b2, b3, a2, a3,
    guardFired := guardFires binary64 a3,
    q1, c1, c2,
    ppa := if guardFires binary64 a3 then binary64.lit 0 else stagePa binary64 q1 c1 c2 c.p.p7,
    g, hA, hB, hC, hD, hE, hF := stageHF binary64 hE c.h.h1 }

/-! Each stage function, on the values of the stages that it reads, gives the stage's own value. -/

section
variable (c : Coef) (x : Sample)

@[simp] theorem stageVar1_values : stageVar1 x.traw c.t.t1 c.t.t2 = (stageValues c x).tv1 := rfl
@[simp] theorem stageVar2_values : stageVar2 x.traw c.t.t1 c.t.t3 = (stageValues c x).tv2 := rfl
@[simp] theorem tfine_values :
    (stageValues c x).tv1 + (stageValues c x).tv2 = (compensate defaultParams c x).tfine := rfl
@[simp] theorem stageCenti_values :
    stageCenti (compensate defaultParams c x).tfine = (compensate defaultParams c x).tcenti := rfl
@[simp] theorem stageFahr_values :
    stageFahr binary64 (compensate defaultParams c x).tcenti = (compensate defaultParams c x).outF := rfl
@[simp] theorem stageA1_values :
    stageA1 binary64 (compensate defaultParams c x).tfine = (stageValues c x).a1 := rfl
@[simp] theorem stageB1_values : stageB1 binary64 (stageValues c x).a1 c.p.p6 = (stageValues c x).b1 := rfl
@[simp] theorem stageB2_values :
    stageB2 binary64 (stageValues c x).b1 (stageValues c x).a1 c.p.p5 = (stageValues c x).b2 := rfl
@[simp] theorem stageB3_values : stageB3 binary64 (stageValues c x).b2 c.p.p4 = (stageValues c x).b3 := rfl
@[simp] theorem stageA2_values : stageA2 binary64 (stageValues c x).a1 c.p.p3 c.p.p2 = (stageValues c x).a2 := rfl
@[simp] theorem stageDen_values : stageDen binary64 (stageValues c x).a2 c.p.p1 = (stageValues c x).a3 := rfl
@[simp] theorem guardFires_values :
    guardFires binary64 (stageValues c x).a3 = (stageValues c x).guardFired := rfl
@[simp] theorem stageQ1_values :
    stageQ1 binary64 x.praw (stageValues c x).b3 (stageValues c x).a3 = (stageValues c x).q1 := rfl
@[simp] theorem stageC1_values : stageC1 binary64 (stageValues c x).q1 c.p.p9 = (stageValues c x).c1 := rfl
@[simp] theorem stageC2_values : stageC2 binary64 (stageValues c x).q1 c.p.p8 = (stageValues c x).c2 := rfl
@[simp] theorem stageHpa_values :
    stageHpa binary64 (stageValues c x).ppa = (compensate defaultParams c x).outHpa := rfl
@[simp] theorem stageG_values : stageG binary64 (compensate defaultParams c x).tfine = (stageValues c x).g := rfl
@[simp] theorem stageHA_values :
    stageHA binary64 x.hraw c.h.h4 c.h.h5 (stageValues c x).g = (stageValues c x).hA := rfl
@[simp] theorem stageHB_values : stageHB binary64 c.h.h3 (stageValues c x).g = (stageValues c x).hB := rfl
@[simp] theorem stageHC_values :
    stageHC binary64 c.h.h6 (stageValues c x).g (stageValues c x).hB = (stageValues c x).hC := rfl
@[simp] theorem stageHD_values : stageHD binary64 c.h.h2 (stageValues c x).hC = (stageValues c x).hD := rfl
@[simp] theorem stageHE_values :
    stageHE binary64 (stageValues c x).hA (stageValues c x).hD = (stageValues c x).hE := rfl
@[simp] theorem stageHF_values : stageHF binary64 (stageValues c x).hE c.h.h1 = (stageValues c x).hF := rfl
@[simp] theorem stageClamp_values :
    stageClamp binary64 (stageValues c x).hF = (compensate defaultParams c x).outPct := rfl

/-- Where the guard fires it leaves the pascal value 0 (R187). -/
theorem ppa_of_fired (h : (stageValues c x).guardFired = true) : binary64.lit 0 = (stageValues c x).ppa :=
  (if_pos h).symm

/-- Where the guard does not fire, P.PA leaves the pascal value (R191). -/
theorem ppa_of_not_fired (h : (stageValues c x).guardFired = false) :
    stagePa binary64 (stageValues c x).q1 (stageValues c x).c1 (stageValues c x).c2 c.p.p7 = (stageValues c x).ppa :=
  (if_neg (Bool.eq_false_iff.mp h)).symm

end

/-! ### A run of some of the stages -/

@[simp] theorem pick_nil {α : Type} (i : Instr) (new old : α) : pick [] i new old = old := rfl

section
variable (c : Coef) (x : Sample) (done : List Instr)

/-- The trace scratch `k` after the stages `done` of a COMPENSATE on `c` and `x`, in whatever order they ran. -/
def partlyRunScratch (k : Scratch) : Scratch :=
  let v := stageValues c x
  { tv1 := pick done .tVar1 v.tv1 k.tv1
    tv2 := pick done .tVar2 v.tv2 k.tv2
    a1 := pick done .pA1 v.a1 k.a1
    b1 := pick done .pB1 v.b1 k.b1
    b2 := pick done .pB2 v.b2 k.b2
    b3 := pick done .pB3 v.b3 k.b3
    a2 := pick done .pA2 v.a2 k.a2
    a3 := pick done .pDen v.a3 k.a3
    guardFired := pick done .pGuard v.guardFired k.guardFired
    q1 := if v.guardFired then k.q1 else pick done .pQ1 v.q1 k.q1
    c1 := if v.guardFired then k.c1 else pick done .pC1 v.c1 k.c1
    c2 := if v.guardFired then k.c2 else pick done .pC2 v.c2 k.c2
    ppa := if v.guardFired then pick done .pGuard v.ppa k.ppa else pick done .pPa v.ppa k.ppa
    g := pick done .hG v.g k.g
    hA := pick done .hA v.hA k.hA
    hB := pick done .hB v.hB k.hB
    hC := pick done .hC v.hC k.hC
    hD := pick done .hD v.hD k.hD
    hE := pick done .hE v.hE k.hE
    hF := pick done .hF v.hF k.hF }

/-- RESULT `r` after the stages `done` of a COMPENSATE on `c` and `x`, in whatever order they ran. -/
def partlyRunResults (r : Results) : Results :=
  let new := compensate defaultParams c x
  { tfine := pick done .tFine new.tfine r.tfine
    tcenti := pick done .tCenti new.tcenti r.tcenti
    outF := pick done .tFahr new.outF r.outF
    outHpa := pick done .pHpa new.outHpa r.outHpa
    outPct := pick done .hClamp new.outPct r.outPct }

theorem partlyRunResults_of_all (h : ∀ i ∈ stageOrder, i ∈ done) (r : Results) :
    partlyRunResults c x done r = compensate defaultParams c x := by
  simp only [stageOrder, List.forall_mem_append, List.forall_mem_cons] at h
  simp [partlyRunResults, pick_of_mem, h]

end

/-- `s` after the stages `done` of a COMPENSATE, in whatever order they ran. -/
def partlyRun (done : List Instr) (s : State) : State :=
  (s.setResults (partlyRunResults s.coef s.sample done s.results)).setScratch
    (partlyRunScratch s.coef s.sample done s.scratch)

theorem partlyRun_nil (s : State) : partlyRun [] s = s := by
  have hscratch : partlyRunScratch s.coef s.sample [] s.scratch = s.scratch := by simp [partlyRunScratch]
  have hresults : partlyRunResults s.coef s.sample [] s.results = s.results := by simp [partlyRunResults]
  rw [partlyRun, hscratch, hresults]
  rfl

@[simp] theorem setScratch_setScratch (s : State) (k k' : Scratch) :
    (s.setScratch k).setScratch k' = s.setScratch k' := rfl
@[simp] theorem setResults_setScratch (s : State) (k : Scratch) (r r' : Results) :
    ((s.setResults r).setScratch k).setResults r' = (s.setResults r').setScratch k := rfl

/-! ### The effect of each stage -/

section
variable {done : List Instr}

/-- The stages of Steps 1 and 4 (R160 to R166). -/
theorem exec_temperature_partlyRun {i : Instr} (hi : i ∈ [.tVar1, .tVar2, .tFine, .tCenti, .tFahr])
    (h : ∀ j ∈ stagesBefore 5 i, j ∈ done) (s : State) :
    exec i (partlyRun done s) = .next (partlyRun (i :: done) s) := by
  simp only [List.mem_cons, List.not_mem_nil, or_false] at hi
  obtain rfl | rfl | rfl | rfl | rfl := hi
  · simp [exec_tVar1, partlyRun, partlyRunScratch, partlyRunResults]
  · simp [exec_tVar2, partlyRun, partlyRunScratch, partlyRunResults]
  · have h1 := h .tVar1 (by decide)
    have h2 := h .tVar2 (by decide)
    simp [exec_tFine, partlyRun, partlyRunScratch, partlyRunResults, pick_of_mem h1, pick_of_mem h2]
  · have hfine := h .tFine (by decide)
    simp [exec_tCenti, partlyRun, partlyRunScratch, partlyRunResults, pick_of_mem hfine]
  · have hcenti := h .tCenti (by decide)
    simp [exec_tFahr, partlyRun, partlyRunScratch, partlyRunResults, pick_of_mem hcenti]

/-- The stages of Step 2 up to the denominator (R181 to R186). -/
theorem exec_denominator_partlyRun {i : Instr} (hi : i ∈ [.pA1, .pB1, .pB2, .pB3, .pA2, .pDen])
    (h : ∀ j ∈ stagesBefore 5 i, j ∈ done) (s : State) :
    exec i (partlyRun done s) = .next (partlyRun (i :: done) s) := by
  simp only [List.mem_cons, List.not_mem_nil, or_false] at hi
  obtain rfl | rfl | rfl | rfl | rfl | rfl := hi
  · have hfine := h .tFine (by decide)
    simp [exec_pA1, partlyRun, partlyRunScratch, partlyRunResults, pick_of_mem hfine]
  · have ha1 := h .pA1 (by decide)
    simp [exec_pB1, partlyRun, partlyRunScratch, partlyRunResults, pick_of_mem ha1]
  · have ha1 := h .pA1 (by decide)
    have hb1 := h .pB1 (by decide)
    simp [exec_pB2, partlyRun, partlyRunScratch, partlyRunResults, pick_of_mem ha1, pick_of_mem hb1]
  · have hb2 := h .pB2 (by decide)
    simp [exec_pB3, partlyRun, partlyRunScratch, partlyRunResults, pick_of_mem hb2]
  · have ha1 := h .pA1 (by decide)
    simp [exec_pA2, partlyRun, partlyRunScratch, partlyRunResults, pick_of_mem ha1]
  · have ha2 := h .pA2 (by decide)
    simp [exec_pDen, partlyRun, partlyRunScratch, partlyRunResults, pick_of_mem ha2]

/-- The guard sets its flag and, where it fires, writes the pascal value (R187). -/
theorem exec_pGuard_partlyRun (h : ∀ j ∈ stagesBefore 5 .pGuard, j ∈ done) (s : State) :
    exec .pGuard (partlyRun done s) = .next (partlyRun (.pGuard :: done) s) := by
  have ha3 := h .pDen (by decide)
  have hguard : guardFires binary64 (partlyRun done s).scratch.a3 = (stageValues s.coef s.sample).guardFired := by
    simp [partlyRun, partlyRunScratch, pick_of_mem ha3]
  cases hf : (stageValues s.coef s.sample).guardFired with
  | true =>
    rw [exec_pGuard_of_fires (hguard.trans hf), ppa_of_fired _ _ hf]
    simp [partlyRun, partlyRunScratch, partlyRunResults, hf]
  | false =>
    rw [exec_pGuard_of_not_fires (Bool.eq_false_iff.mp (hguard.trans hf))]
    simp [partlyRun, partlyRunScratch, partlyRunResults, hf]

/-- A stage after the guard is skipped where it fired, and otherwise writes its field (R187). -/
theorem unlessSkipped_partlyRun {i : Instr} (hguard : .pGuard ∈ done) {s write : State}
    (hskip : (stageValues s.coef s.sample).guardFired = true → partlyRun done s = partlyRun (i :: done) s)
    (hrun : (stageValues s.coef s.sample).guardFired = false → write = partlyRun (i :: done) s) :
    unlessSkipped (partlyRun done s) write = .next (partlyRun (i :: done) s) := by
  have hflag : (partlyRun done s).scratch.guardFired = (stageValues s.coef s.sample).guardFired := by
    simp [partlyRun, partlyRunScratch, pick_of_mem hguard]
  cases hf : (stageValues s.coef s.sample).guardFired with
  | true => rw [unlessSkipped_of_fired (hflag.trans hf), hskip hf]
  | false => rw [unlessSkipped_of_not_fired (hflag.trans hf), hrun hf]

/-- The stages between the guard and the pascal value (R188 to R191). -/
theorem exec_pascal_partlyRun {i : Instr} (hi : i ∈ [.pQ1, .pC1, .pC2, .pPa])
    (h : ∀ j ∈ stagesBefore 5 i, j ∈ done) (s : State) :
    exec i (partlyRun done s) = .next (partlyRun (i :: done) s) := by
  simp only [List.mem_cons, List.not_mem_nil, or_false] at hi
  obtain rfl | rfl | rfl | rfl := hi
  · have ha3 := h .pDen (by decide)
    have hb3 := h .pB3 (by decide)
    refine unlessSkipped_partlyRun (h .pGuard (by decide)) (fun hf => ?_) (fun hf => ?_)
    · simp [partlyRun, partlyRunScratch, partlyRunResults, hf]
    · simp [partlyRun, partlyRunScratch, partlyRunResults, hf, pick_of_mem ha3, pick_of_mem hb3]
  · have hq1 := h .pQ1 (by decide)
    refine unlessSkipped_partlyRun (h .pGuard (by decide)) (fun hf => ?_) (fun hf => ?_)
    · simp [partlyRun, partlyRunScratch, partlyRunResults, hf]
    · simp [partlyRun, partlyRunScratch, partlyRunResults, hf, pick_of_mem hq1]
  · have hq1 := h .pQ1 (by decide)
    refine unlessSkipped_partlyRun (h .pGuard (by decide)) (fun hf => ?_) (fun hf => ?_)
    · simp [partlyRun, partlyRunScratch, partlyRunResults, hf]
    · simp [partlyRun, partlyRunScratch, partlyRunResults, hf, pick_of_mem hq1]
  · have hq1 := h .pQ1 (by decide)
    have hc1 := h .pC1 (by decide)
    have hc2 := h .pC2 (by decide)
    refine unlessSkipped_partlyRun (h .pGuard (by decide)) (fun hf => ?_) (fun hf => ?_)
    · simp [partlyRun, partlyRunScratch, partlyRunResults, hf]
    · simp [partlyRun, partlyRunScratch, partlyRunResults, hf, ppa_of_not_fired, pick_of_mem hq1, pick_of_mem hc1,
        pick_of_mem hc2]

/-- P.HPA reads the pascal value, of whichever stage wrote it (R192). -/
theorem exec_pHpa_partlyRun (h : ∀ j ∈ stagesBefore 5 .pHpa, j ∈ done) (s : State) :
    exec .pHpa (partlyRun done s) = .next (partlyRun (.pHpa :: done) s) := by
  have hguard := h .pGuard (by decide)
  have hpa := h .pPa (by decide)
  simp [exec_pHpa, partlyRun, partlyRunScratch, partlyRunResults, pick_of_mem hguard, pick_of_mem hpa]

/-- The stages of Step 3 (R201 to R208). -/
theorem exec_humidity_partlyRun {i : Instr} (hi : i ∈ [.hG, .hA, .hB, .hC, .hD, .hE, .hF, .hClamp])
    (h : ∀ j ∈ stagesBefore 5 i, j ∈ done) (s : State) :
    exec i (partlyRun done s) = .next (partlyRun (i :: done) s) := by
  simp only [List.mem_cons, List.not_mem_nil, or_false] at hi
  obtain rfl | rfl | rfl | rfl | rfl | rfl | rfl | rfl := hi
  · have hfine := h .tFine (by decide)
    simp [exec_hG, partlyRun, partlyRunScratch, partlyRunResults, pick_of_mem hfine]
  · have hg := h .hG (by decide)
    simp [exec_hA, partlyRun, partlyRunScratch, partlyRunResults, pick_of_mem hg]
  · have hg := h .hG (by decide)
    simp [exec_hB, partlyRun, partlyRunScratch, partlyRunResults, pick_of_mem hg]
  · have hg := h .hG (by decide)
    have hb := h .hB (by decide)
    simp [exec_hC, partlyRun, partlyRunScratch, partlyRunResults, pick_of_mem hg, pick_of_mem hb]
  · have hc := h .hC (by decide)
    simp [exec_hD, partlyRun, partlyRunScratch, partlyRunResults, pick_of_mem hc]
  · have ha := h .hA (by decide)
    have hd := h .hD (by decide)
    simp [exec_hE, partlyRun, partlyRunScratch, partlyRunResults, pick_of_mem ha, pick_of_mem hd]
  · have he := h .hE (by decide)
    simp [exec_hF, partlyRun, partlyRunScratch, partlyRunResults, pick_of_mem he]
  · have hf := h .hF (by decide)
    simp [exec_hClamp, partlyRun, partlyRunScratch, partlyRunResults, pick_of_mem hf]

/-- Each of the 25 brings its own field to the value that COMPENSATE gives it, once the stages before it have run, and
leaves the others as they are. -/
theorem exec_partlyRun {i : Instr} (hi : i ∈ stageOrder) (h : ∀ j ∈ stagesBefore 5 i, j ∈ done) (s : State) :
    exec i (partlyRun done s) = .next (partlyRun (i :: done) s) := by
  cases i with
  | tVar1 | tVar2 | tFine | tCenti | tFahr => exact exec_temperature_partlyRun (by decide) h s
  | pA1 | pB1 | pB2 | pB3 | pA2 | pDen => exact exec_denominator_partlyRun (by decide) h s
  | pGuard => exact exec_pGuard_partlyRun h s
  | pQ1 | pC1 | pC2 | pPa => exact exec_pascal_partlyRun (by decide) h s
  | pHpa => exact exec_pHpa_partlyRun h s
  | hG | hA | hB | hC | hD | hE | hF | hClamp => exact exec_humidity_partlyRun (by decide) h s
  | _ => simp [stageOrder] at hi

end

/-! ### A run in any order (R221) -/

/-- Every stage of the list stands after the stages it needs, or these have run before (R221). -/
def RespectsNeedsAfter (done l : List Instr) : Prop :=
  ∀ before i after, l = before ++ i :: after → ∀ j ∈ stageNeeds i, j ∈ before.reverse ++ done

theorem respectsNeedsAfter_nil {l : List Instr} (h : RespectsNeeds l) : RespectsNeedsAfter [] l :=
  fun before i after hl j hj => by simpa using h before i after hl j hj

theorem respectsNeedsAfter_cons {done rest : List Instr} {i : Instr} (h : RespectsNeedsAfter done (i :: rest)) :
    (∀ j ∈ stageNeeds i, j ∈ done) ∧ RespectsNeedsAfter (i :: done) rest := by
  refine ⟨h [] i rest rfl, fun before k after hrest j hj => ?_⟩
  have hmem := h (i :: before) k after (congrArg _ hrest) j hj
  rwa [List.reverse_cons, List.append_assoc, List.singleton_append] at hmem

/-- What a run of some of the stages leaves depends on which of them ran, and not on their order. -/
theorem runInstrs_partlyRun {l done : List Instr} (hl : ∀ i ∈ l, i ∈ stageOrder) (hdone : ClosedUnderNeeds done)
    (hneeds : RespectsNeedsAfter done l) (s : State) :
    runInstrs l (partlyRun done s) = .next (partlyRun (l.reverse ++ done) s) := by
  induction l generalizing done with
  | nil => rfl
  | cons i rest ih =>
    obtain ⟨hi, hrest⟩ := List.forall_mem_cons.mp hl
    obtain ⟨hready, hafter⟩ := respectsNeedsAfter_cons hneeds
    have hexec := exec_partlyRun hi (mem_of_mem_stagesBefore hdone 5 hready) s
    rw [runInstrs_cons hexec, ih hrest (closedUnderNeeds_cons hdone hready) hafter, List.reverse_cons,
      List.append_assoc, List.singleton_append]

/-- Settles O38: when all 25 have run, in whatever order, every register of RESULT holds the value of COMPENSATE. -/
theorem stagesInAnyOrderAreCompensate : Obligations.StagesInAnyOrderAreCompensate := by
  intro l s hperm hneeds
  have hrun := runInstrs_partlyRun (fun _ hi => hperm.mem_iff.mp hi) (List.forall_mem_nil _)
    (respectsNeedsAfter_nil hneeds) s
  have hall : ∀ i ∈ stageOrder, i ∈ l.reverse ++ [] := fun i hi => by simpa using hperm.mem_iff.mpr hi
  rw [partlyRun_nil, partlyRun, partlyRunResults_of_all _ _ _ hall] at hrun
  exact ⟨_, hrun, rfl⟩

end Sys2Proof.Proofs
end

section
/-! PROOFS. The commands one by one (spec/46_commands.md): DECODE_CAL (R224), COMPENSATE (R223, R225), RESET (R231),
RDREG (R232), what the FAULTED state leaves of them (R233), and the step that runs them (R230). -/

namespace Sys2Proof.Proofs

open Sys2Proof Sys2Proof.Machine Sys2Proof.Safety

/-! ### DECODE_CAL (R224) -/

/-- Settles O16: behind the gate of the FAULTED state DECODE_CAL turns on the three lengths alone. -/
theorem decodeCalStartsASession : Obligations.DecodeCalStartsASession := by
  intro b24 b1 b7 s
  have hexec : exec (.decodeCal b24 b1 b7) s = execDecodeCal b24 b1 b7 s := rfl
  rw [hexec, execDecodeCal, decodeCalibration_eq]
  refine ⟨fun hf => unlessFaulted_of_faulted hf _, fun hf hlen => ?_, fun hf h24 h1 h7 => ?_⟩
  · rw [unlessFaulted_of_not_faulted hf, if_neg (by omega)]
    exact congrArg _ (raise_eq_faultedWith hf .blockLength)
  · rw [unlessFaulted_of_not_faulted hf, if_pos ⟨h24, h1, h7⟩]
    rfl

/-! ### COMPENSATE (R223, R225) -/

theorem exec_compensate_of_faulted {s : State} (hf : s.faulted = true) :
    exec .compensate s = .next (refusedFaulted s) := unlessFaulted_of_faulted hf _

theorem exec_compensate_of_not_smpValid {s : State} (hf : s.faulted = false) (hsmp : s.smpValid = false) :
    exec .compensate s = .next (s.raise .notReady) := by
  show execCompensate s = _
  rw [execCompensate, unlessFaulted_of_not_faulted hf]
  simp [hsmp]

/-- The triple that a COMPENSATE answers (R225). -/
def tripleOf (r : Results) : Reply := .triple r.outF r.outHpa r.outPct

theorem exec_compensate_of_ready {s : State} (hf : s.faulted = false) (hcal : s.calValid = true)
    (hsmp : s.smpValid = true) :
    exec .compensate s = .next ((s.storeResults (compensate defaultParams s.coef s.sample)).respond
      (.ok (tripleOf (compensate defaultParams s.coef s.sample)))) := by
  show execCompensate s = _
  rw [execCompensate, unlessFaulted_of_not_faulted hf, hcal, hsmp]
  rfl

/-- Settles O37: behind the gate of the FAULTED state COMPENSATE turns on the flags of its record and its sample. -/
theorem compensateStoresTheResults : Obligations.CompensateStoresTheResults := by
  refine fun s => ⟨exec_compensate_of_faulted, fun hf hinvalid => ?_, fun hf hcal hsmp => ⟨_, rfl, ?_⟩⟩
  · have hexec : exec .compensate s = .next (s.raise .notReady) :=
      hinvalid.elim (exec_compensate_of_not_calValid hf) (exec_compensate_of_not_smpValid hf)
    rw [hexec, raise_eq_faultedWith hf]
    rfl
  · rw [exec_compensate_of_ready hf hcal hsmp]
    rfl

/-- Settles O39: what a ready COMPENSATE stores and answers is made of the record and the sample, and both are as before
after it, and ready. -/
theorem compensateDependsOnRecordAndSampleOnly : Obligations.CompensateDependsOnRecordAndSampleOnly := by
  refine ⟨fun s t s' t' hsf htf hsc htc hss hts hcoef hsample hs ht => ?_, fun s s' hf hcal hsmp hs => ?_⟩
  · rw [exec_compensate_of_ready hsf hsc hss] at hs
    rw [exec_compensate_of_ready htf htc hts, ← hcoef, ← hsample] at ht
    cases hs
    cases ht
    exact ⟨rfl, _, rfl, rfl⟩
  · rw [exec_compensate_of_ready hf hcal hsmp] at hs
    cases hs
    have hagain := exec_compensate_of_ready
      (s := (s.storeResults (compensate defaultParams s.coef s.sample)).respond
        (.ok (tripleOf (compensate defaultParams s.coef s.sample))))
      (by simpa using hf) (by simpa using hcal) (by simpa using hsmp)
    exact ⟨_, _, hagain, rfl, rfl, rfl⟩

/-! ### RESET (R231) -/

theorem exec_reset (s : State) :
    exec .reset s = .next (answered { State.reset with inbox := s.inbox, outbox := s.outbox } .none) := rfl

/-- Settles O40: RESET is not behind the gate of the FAULTED state, and what it leaves and answers is its definition. -/
theorem resetLeavesThePowerOnState : Obligations.ResetLeavesThePowerOnState := exec_reset

/-! ### RDREG (R232) -/

/-- The index of a register (R20). -/
def indexOf : Reg → Byte
  | .t1 => 0x00 | .t2 => 0x01 | .t3 => 0x02
  | .p1 => 0x03 | .p2 => 0x04 | .p3 => 0x05 | .p4 => 0x06 | .p5 => 0x07 | .p6 => 0x08 | .p7 => 0x09 | .p8 => 0x0A
  | .p9 => 0x0B
  | .h1 => 0x0C | .h2 => 0x0D | .h3 => 0x0E | .h4 => 0x0F | .h5 => 0x10 | .h6 => 0x11
  | .praw => 0x12 | .traw => 0x13 | .hraw => 0x14
  | .tfine => 0x15 | .tcenti => 0x16 | .outF => 0x18 | .outHpa => 0x19 | .outPct => 0x1A
  | .status => 0x1E | .cause => 0x1F

theorem eq_indexOf_of_regOfIndex {idx : Byte} {r : Reg} (h : regOfIndex idx = some r) : idx = indexOf r := by
  unfold regOfIndex at h
  split at h <;> cases h <;> next hidx => exact BitVec.eq_of_toNat_eq hidx

theorem exec_rdreg_status (s : State) :
    exec (.rdreg 0x1E) s = .next (answered s (.image ((s.status &&& 0x87#8).setWidth 64))) := rfl

theorem exec_rdreg_cause (s : State) :
    exec (.rdreg 0x1F) s = .next (answered s (.image (s.cause.setWidth 64))) := rfl

/-- RDREG of an index other than those of STATUS and CAUSE is refused in the FAULTED state (R233). -/
theorem exec_rdreg_of_faulted {s : State} {idx : Byte} (hf : s.faulted = true) (hstatus : idx ≠ 0x1E)
    (hcause : idx ≠ 0x1F) : exec (.rdreg idx) s = .next (refusedFaulted s) := by
  show execRdreg idx s = _
  unfold execRdreg
  split
  · next hr => exact absurd (eq_indexOf_of_regOfIndex hr) hstatus
  · next hr => exact absurd (eq_indexOf_of_regOfIndex hr) hcause
  · exact unlessFaulted_of_faulted hf _
  · exact unlessFaulted_of_faulted hf _

theorem exec_rdreg_of_no_register {s : State} {idx : Byte} (hf : s.faulted = false) (hr : regOfIndex idx = none) :
    exec (.rdreg idx) s = .next (s.raise .badRegister) := by
  show execRdreg idx s = _
  rw [execRdreg, hr]
  exact unlessFaulted_of_not_faulted hf _

theorem exec_rdreg_of_valid {s : State} {idx : Byte} {r : Reg} (hf : s.faulted = false) (hr : regOfIndex idx = some r)
    (hvalid : s.groupValid r.group = true) : exec (.rdreg idx) s = .next (answered s (.image (s.image r))) := by
  show execRdreg idx s = _
  unfold execRdreg
  split
  · next hstatus => cases hr.symm.trans hstatus; rfl
  · next hcause => cases hr.symm.trans hcause; rfl
  · next hnone => cases hr.symm.trans hnone
  · next r' _ _ hr' =>
    cases hr.symm.trans hr'
    rw [unlessFaulted_of_not_faulted hf, if_pos hvalid]
    rfl

/-- A register's answer where its group holds a value, in the terms of the statement (R232). -/
theorem readsAs_of_regOfIndex {idx : Byte} {r : Reg} (hr : regOfIndex idx = some r) :
    ReadsAs idx (State.groupValid · r.group) (State.image · r) := fun _ hf hvalid => exec_rdreg_of_valid hf hr hvalid

/-- The indices that name no register (R20). -/
theorem regOfIndex_eq_none {idx : Byte}
    (h : idx = 0x17 ∨ 0x1B ≤ idx.toNat ∧ idx.toNat ≤ 0x1D ∨ 0x20 ≤ idx.toNat) : regOfIndex idx = none := by
  cases hr : regOfIndex idx with
  | none => rfl
  | some r =>
    rw [eq_indexOf_of_regOfIndex hr] at h
    cases r <;> exact absurd h (by decide)

/-- The indices of the three groups of data registers (R20). -/
theorem groupValid_eq_false_of_index {s : State} {r : Reg}
    (h : (indexOf r).toNat ≤ 0x11 ∧ s.calValid = false ∨
      0x12 ≤ (indexOf r).toNat ∧ (indexOf r).toNat ≤ 0x14 ∧ s.smpValid = false ∨
      (indexOf r = 0x15 ∨ indexOf r = 0x16 ∨ indexOf r = 0x18 ∨ indexOf r = 0x19 ∨ indexOf r = 0x1A) ∧
        s.outValid = false) : s.groupValid r.group = false := by
  rcases h with ⟨hidx, hcal⟩ | ⟨hlow, hhigh, hsmp⟩ | ⟨hidx, hout⟩
  · have hgroup : r.group = .coef := by revert hidx; cases r <;> decide
    rwa [hgroup]
  · have hgroup : r.group = .sample := by revert hlow hhigh; cases r <;> decide
    rwa [hgroup]
  · have hgroup : r.group = .result := by revert hidx; cases r <;> decide
    rwa [hgroup]

/-- Settles O42: STATUS and CAUSE are served before the gate of the FAULTED state; behind it RDREG turns on the register
that the index names and on the flag of its group. -/
theorem rdregAnswersRefusesOrFaults : Obligations.RdregAnswersRefusesOrFaults := by
  refine ⟨fun s => ⟨exec_rdreg_status s, exec_rdreg_cause s⟩,
    fun s idx hstatus hcause hf => exec_rdreg_of_faulted hf hstatus hcause, fun s idx hf hidx => ?_,
    fun s idx hf hidx => ?_, readsAs_of_regOfIndex (r := .t1) rfl, readsAs_of_regOfIndex (r := .t2) rfl,
    readsAs_of_regOfIndex (r := .t3) rfl, readsAs_of_regOfIndex (r := .p1) rfl, readsAs_of_regOfIndex (r := .p2) rfl,
    readsAs_of_regOfIndex (r := .p3) rfl, readsAs_of_regOfIndex (r := .p4) rfl, readsAs_of_regOfIndex (r := .p5) rfl,
    readsAs_of_regOfIndex (r := .p6) rfl, readsAs_of_regOfIndex (r := .p7) rfl, readsAs_of_regOfIndex (r := .p8) rfl,
    readsAs_of_regOfIndex (r := .p9) rfl, readsAs_of_regOfIndex (r := .h1) rfl, readsAs_of_regOfIndex (r := .h2) rfl,
    readsAs_of_regOfIndex (r := .h3) rfl, readsAs_of_regOfIndex (r := .h4) rfl, readsAs_of_regOfIndex (r := .h5) rfl,
    readsAs_of_regOfIndex (r := .h6) rfl, readsAs_of_regOfIndex (r := .praw) rfl,
    readsAs_of_regOfIndex (r := .traw) rfl, readsAs_of_regOfIndex (r := .hraw) rfl,
    readsAs_of_regOfIndex (r := .tfine) rfl, readsAs_of_regOfIndex (r := .tcenti) rfl,
    readsAs_of_regOfIndex (r := .outF) rfl, readsAs_of_regOfIndex (r := .outHpa) rfl,
    readsAs_of_regOfIndex (r := .outPct) rfl⟩
  · rw [exec_rdreg_of_no_register hf (regOfIndex_eq_none hidx), raise_eq_faultedWith hf]
    rfl
  · have hle : idx.toNat ≤ 0x1A := by bv_omega
    have hne : idx ≠ 0x17 := by bv_omega
    obtain ⟨r, hr, -⟩ := regOfIndex_data hle hne
    rw [eq_indexOf_of_regOfIndex hr] at hidx
    rw [exec_rdreg_of_not_valid hf hr (groupValid_eq_false_of_index hidx), raise_eq_faultedWith hf]
    rfl

/-! ### The FAULTED state (R233) -/

/-- Every command but RESET and RDREG is behind the gate of the FAULTED state; RDREG is, but for STATUS and CAUSE (R232,
R233). -/
theorem exec_of_faulted {s : State} (hf : s.faulted = true) {i : Instr} (hi : IsCommand i) (hreset : i ≠ .reset)
    (hstatus : i ≠ .rdreg 0x1E) (hcause : i ≠ .rdreg 0x1F) : exec i s = .next (refusedFaulted s) := by
  rcases hi with rfl | ⟨idx, rfl⟩ | ⟨b24, b1, b7, rfl⟩ | ⟨p, t, h, rfl⟩ | ⟨m, rfl⟩ | rfl
  · exact absurd rfl hreset
  · exact exec_rdreg_of_faulted hf (fun h => hstatus (congrArg _ h)) (fun h => hcause (congrArg _ h))
  · exact unlessFaulted_of_faulted hf _
  · exact unlessFaulted_of_faulted hf _
  · exact unlessFaulted_of_faulted hf _
  · exact exec_compensate_of_faulted hf

/-- Between commands, a step runs the instruction that the first request decodes to (R230). -/
theorem step_of_decodeRequest {s : State} (hs : BetweenCommands s) {r : Request} {rest : List Request}
    (hin : s.inbox = r :: rest) {i : Instr} (hd : decodeRequest r = .ok i) :
    step s = exec i { s with inbox := rest } := by
  rw [step_of_inbox hs hin, runFrame_of_decode_ok (f := .cmd8 r) hd]

/-- Settles O45: the first request is one of the three that the FAULTED state serves, another command, or an unassigned
code; the last two are refused. -/
theorem faultedRefusesAllButResetAndStatus : Obligations.FaultedRefusesAllButResetAndStatus := by
  intro s r rest hs hf hin hr
  refine ⟨?_, ?_, ?_, fun hreset hstatus hcause => ?_⟩
  · rintro rfl
    exact step_of_decodeRequest hs hin rfl
  · rintro rfl
    exact step_of_decodeRequest hs hin rfl
  · rintro rfl
    exact step_of_decodeRequest hs hin rfl
  · rcases decodeRequest_of_presentable hr with ⟨i, hd⟩ | hd
    · have henc := encode_of_decodeRequest hd
      have hne : ∀ {j : Instr} {q : Request}, encode j = .cmd8 q → r ≠ q → i ≠ j := by
        rintro j q hj hq rfl
        exact hq (Frame.cmd8.inj (henc.symm.trans hj))
      rw [step_of_decodeRequest hs hin hd]
      exact exec_of_faulted (s := { s with inbox := rest }) hf (isCommand_of_encode henc) (hne rfl hreset)
        (hne rfl hstatus) (hne rfl hcause)
    · rw [step_of_illegalCommand hs hin hd]
      exact congrArg _ (raise_of_faulted (s := { s with inbox := rest }) hf _)

/-! ### The step (R230) -/

/-- Settles O4: between commands a step waits or runs the first request, and inside a command it runs its next part or
drops the trace. -/
theorem stepRunsTheDecodedInstruction : Obligations.StepRunsTheDecodedInstruction := by
  refine ⟨fun s r rest i hs hin hd => step_of_decodeRequest hs hin hd, fun s hs hin => ?_,
    fun s m rest i hm hf hd => ?_, fun s m rest hm hf => ?_⟩
  · rcases step_of_between hs with ⟨_, hwait⟩ | ⟨r, rest, hcons, _⟩
    · exact hwait
    · cases hin.symm.trans hcons
  · rcases step_of_trace hm with ⟨hfaulted, _⟩ | ⟨_, hrun⟩
    · cases hf.symm.trans hfaulted
    · rw [hrun, runFrame_of_decode_ok hd]
  · rcases step_of_trace hm with ⟨_, hdrop⟩ | ⟨hready, _⟩
    · exact hdrop
    · cases hf.symm.trans hready

end Sys2Proof.Proofs
end

section
/-! PROOFS. The way into the FAULTED state and the way out of it (spec/60_exceptions.md R246 to R250): every instruction
leaves FAULTED and CAUSE alone but for fault entry and RESET. -/

namespace Sys2Proof.Proofs

open Sys2Proof Sys2Proof.Machine Sys2Proof.Safety

/-! ### What an instruction does to FAULTED and CAUSE -/

/-- FAULTED and CAUSE are written by fault entry and by RESET only (R247, R250). -/
theorem faulted_cause_of_effect {s t : State} {i : Instr} (h : Effect s i t) :
    (t.faulted = s.faulted ∧ t.cause = s.cause) ∨ (∃ k, k ≠ .faulted ∧ t = s.raise k) ∨
      (i = .reset ∧ t = s.restart.respond (.ok .none)) := by
  cases h with
  | answers => exact .inl ⟨rfl, rfl⟩
  | raises _ hk => exact .inr (.inl ⟨_, hk, rfl⟩)
  | resets => exact .inr (.inr ⟨rfl, rfl⟩)
  | session | loadsWords | loadsBlock | compensates => exact .inl ⟨by simp, rfl⟩
  | part _ ht => exact .inl ⟨congrArg (statusFlag · faultedMask) ht.status, ht.cause⟩

/-! ### Into the FAULTED state (R247) -/

/-- An instruction enters the FAULTED state by fault entry only. -/
theorem eq_raise_of_effect {s t : State} {i : Instr} (h : Effect s i t) (hs : s.faulted = false)
    (ht : t.faulted = true) : ∃ k, k ≠ .faulted ∧ t = s.raise k := by
  rcases faulted_cause_of_effect h with ⟨hkept, _⟩ | hraise | ⟨_, rfl⟩
  · cases hs.symm.trans (hkept.symm.trans ht)
  · exact hraise
  · cases (restart_faulted s).symm.trans ht

/-- A host's request enters the FAULTED state by fault entry only. -/
theorem eq_raise_of_step {s t : State} {r : Request} {rest : List Request} (hs : BetweenCommands s)
    (hf : s.faulted = false) (hin : s.inbox = r :: rest) (h : step s = .next t) (ht : t.faulted = true) :
    ∃ k, k ≠ .faulted ∧ t = State.raise k { s with inbox := rest } := by
  rcases step_effect_of_between hs h with rfl | ⟨r', rest', hin', hrun⟩
  · cases hf.symm.trans ht
  · cases hin.symm.trans hin'
    rcases hrun with ⟨i, _, he⟩ | rfl
    · exact eq_raise_of_effect he hf ht
    · exact ⟨.illegalCommand, by decide, rfl⟩

/-- Settles O44: the step is a fault entry, which is one of five by its cause. -/
theorem faultEntryWritesFaultedAndCauseOnly : Obligations.FaultEntryWritesFaultedAndCauseOnly := by
  intro s t r rest hs hf hin h ht
  obtain ⟨k, hk, rfl⟩ := eq_raise_of_step hs hf hin h ht
  rw [raise_eq_faultedWith (s := { s with inbox := rest }) hf]
  cases k with
  | blockLength => exact .inl rfl
  | sampleWidth => exact .inr (.inl rfl)
  | notReady => exact .inr (.inr (.inl rfl))
  | illegalCommand => exact .inr (.inr (.inr (.inl rfl)))
  | badRegister => exact .inr (.inr (.inr (.inr rfl)))
  | faulted => exact absurd rfl hk

/-! ### Out of the FAULTED state (R246, R248, R250) -/

/-- In the FAULTED state nothing is raised, and the first cause stays (R246, R248). -/
theorem raise_cause_of_faulted {s : State} (hf : s.faulted = true) (k : Cause) : (s.raise k).cause = s.cause := by
  rw [raise_of_faulted hf, State.respond_cause]

/-- Every instruction but RESET keeps FAULTED and the first cause. -/
theorem kept_or_reset_of_effect {s t : State} {i : Instr} (hf : s.faulted = true) (h : Effect s i t) :
    (t.faulted = true ∧ t.cause = s.cause) ∨ (i = .reset ∧ t = s.restart.respond (.ok .none)) := by
  rcases faulted_cause_of_effect h with ⟨hkept, hcause⟩ | ⟨k, _, rfl⟩ | hreset
  · exact .inl ⟨hkept.trans hf, hcause⟩
  · exact .inl ⟨raise_faulted k s, raise_cause_of_faulted hf k⟩
  · exact .inr hreset

/-- Settles O46: a wait and a dropped trace write neither FAULTED nor CAUSE, an unassigned code is refused, and of the
commands only RESET clears FAULTED. -/
theorem onlyResetLeavesTheFaultedState : Obligations.OnlyResetLeavesTheFaultedState := by
  intro s t hf h
  rcases step_cases h with ⟨hs, ⟨_, rfl⟩ | ⟨r, rest, hin, hrun⟩⟩ | ⟨m, rest, _, ⟨_, rfl⟩ | ⟨hready, _⟩⟩
  · exact .inl ⟨hf, rfl⟩
  · rcases hrun with ⟨i, hd, hx⟩ | ⟨_, _, rfl⟩
    · rcases kept_or_reset_of_effect (s := { s with inbox := rest }) hf (exec_effect hx) with hkept | ⟨rfl, rfl⟩
      · exact .inl hkept
      · obtain rfl := Frame.cmd8.inj (encode_of_decodeRequest hd)
        exact .inr ⟨by simp, by simp, by simp, hs, rest, hin⟩
    · exact .inl ⟨raise_faulted _ _, raise_cause_of_faulted (s := { s with inbox := rest }) hf _⟩
  · exact .inl ⟨hf, rfl⟩
  · cases hf.symm.trans hready

end Sys2Proof.Proofs
end

section
/-! PROOFS. No command observes a register that holds no value (spec/70_reset_and_hazards.md R270,
spec/10_state.md R27): every operation that a command is made of takes two states that agree on all that is valid to
two such states. -/

namespace Sys2Proof.Proofs

open Sys2Proof Sys2Proof.Machine Sys2Proof.Safety

/-! ### What two such states agree on -/

section

variable {s t : State} (h : SameVisible s t)

include h

theorem calValid_of_sameVisible : s.calValid = t.calValid := congrArg (statusFlag · calMask) h.left

theorem smpValid_of_sameVisible : s.smpValid = t.smpValid := congrArg (statusFlag · smpMask) h.left

theorem outValid_of_sameVisible : s.outValid = t.outValid := congrArg (statusFlag · outMask) h.left

theorem faulted_of_sameVisible : s.faulted = t.faulted := congrArg (statusFlag · faultedMask) h.left

theorem groupValid_of_sameVisible (g : RegGroup) : s.groupValid g = t.groupValid g := by
  cases g with
  | coef => exact calValid_of_sameVisible h
  | sample => exact smpValid_of_sameVisible h
  | result => exact outValid_of_sameVisible h
  | control => rfl

theorem coef_of_sameVisible (hcal : s.calValid = true) : s.coef = t.coef := by
  obtain ⟨_, _, _, _, _, hcoef, _, _⟩ := h
  exact hcoef hcal

theorem sample_of_sameVisible (hsmp : s.smpValid = true) : s.sample = t.sample := by
  obtain ⟨_, _, _, _, _, _, hsample, _⟩ := h
  exact hsample hsmp

theorem results_of_sameVisible (hout : s.outValid = true) : s.results = t.results := by
  obtain ⟨_, _, _, _, _, _, _, hresults⟩ := h
  exact hresults hout

theorem inbox_of_sameVisible : s.inbox = t.inbox := by
  obtain ⟨_, _, hinbox, _⟩ := h
  exact hinbox

theorem betweenCommands_of_sameVisible (hs : BetweenCommands s) : BetweenCommands t := by
  obtain ⟨_, _, _, _, hmicro, _⟩ := h
  exact hmicro.symm.trans hs

/-- Every register whose group holds a value reads the same (R27, R232). -/
theorem image_of_sameVisible {r : Reg} (hvalid : s.groupValid r.group = true) : s.image r = t.image r := by
  cases r with
  | status => exact congrArg (fun v => (clearFlags v reservedMask).setWidth 64) h.left
  | cause =>
    obtain ⟨_, hcause, _⟩ := h
    exact congrArg (BitVec.setWidth 64) hcause
  | praw | traw | hraw => simp only [State.image, sample_of_sameVisible h hvalid]
  | tfine | tcenti | outF | outHpa | outPct => simp only [State.image, results_of_sameVisible h hvalid]
  | _ => simp only [State.image, coef_of_sameVisible h hvalid]

/-! ### The operations on the state -/

theorem sameVisible_withInbox (l : List Request) : SameVisible (withInbox s l) (withInbox t l) := by
  obtain ⟨hstatus, hcause, _, houtbox, hmicro, hdata⟩ := h
  exact ⟨hstatus, hcause, rfl, houtbox, hmicro, hdata⟩

theorem sameVisible_respond (r : Response) : SameVisible (s.respond r) (t.respond r) := by
  obtain ⟨hstatus, hcause, hinbox, houtbox, hmicro, hdata⟩ := h
  exact ⟨hstatus, hcause, hinbox, congrArg (· ++ [r]) houtbox, hmicro, hdata⟩

/-- Fault entry writes no data register and no valid flag (R247). -/
theorem sameVisible_raise (k : Cause) : SameVisible (s.raise k) (t.raise k) := by
  cases hs : s.faulted with
  | true =>
    rw [raise_of_faulted hs, raise_of_faulted ((faulted_of_sameVisible h).symm.trans hs)]
    exact sameVisible_respond h _
  | false =>
    have ht : t.faulted = false := (faulted_of_sameVisible h).symm.trans hs
    obtain ⟨hstatus, _, hinbox, houtbox, hmicro, hcoef, hsample, hresults⟩ := h
    refine ⟨?_, ?_, by simpa using hinbox, ?_, by simpa using hmicro, by simpa using hcoef, by simpa using hsample,
      by simpa using hresults⟩
    all_goals rw [raise_of_not_faulted hs, raise_of_not_faulted ht]
    · exact congrArg (setFlags · faultedMask) hstatus
    · exact congrArg (· ++ [.fault k]) houtbox

/-- RESET puts every data register back, valid or not (R231). -/
theorem sameVisible_restart : SameVisible s.restart t.restart := by
  obtain ⟨_, _, hinbox, houtbox, _⟩ := h
  exact ⟨rfl, rfl, hinbox, houtbox, rfl, fun _ => rfl, fun _ => rfl, fun _ => rfl⟩

/-- The sample, which is valid now, is the same whatever stood there before (R24). -/
theorem sameVisible_loadSample (x : Sample) : SameVisible (s.loadSample x) (t.loadSample x) := by
  obtain ⟨hstatus, hcause, hinbox, houtbox, hmicro, hcoef, _, hresults⟩ := h
  exact ⟨congrArg (setFlags · smpMask) hstatus, hcause, hinbox, houtbox, hmicro, by simpa using hcoef, fun _ => rfl,
    by simpa using hresults⟩

/-- The record, which is valid now, is the same whatever stood there before, and no result is valid (R23, R224). -/
theorem sameVisible_startSession (c : Coef) : SameVisible (s.startSession c) (t.startSession c) := by
  obtain ⟨hstatus, hcause, hinbox, houtbox, hmicro, _, hsample, _⟩ := h
  exact ⟨congrArg (fun v => clearFlags (setFlags v calMask) outMask) hstatus, hcause, hinbox, houtbox, hmicro,
    fun _ => rfl, by simpa using hsample, by simp⟩

/-- The results, which are valid now, are the same whatever stood there before (R225). -/
theorem sameVisible_storeResults (r : Results) : SameVisible (s.storeResults r) (t.storeResults r) := by
  obtain ⟨hstatus, hcause, hinbox, houtbox, hmicro, hcoef, hsample, _⟩ := h
  exact ⟨congrArg (setFlags · outMask) hstatus, hcause, hinbox, houtbox, hmicro, by simpa using hcoef,
    by simpa using hsample, fun _ => rfl⟩

end

/-! ### Outcomes that no host can tell apart -/

/-- Where the first outcome is a next state, the second is one too, and they agree on all that is valid. -/
def SameOutcome (a b : StepResult) : Prop := ∀ s', a = .next s' → ∃ t', b = .next t' ∧ SameVisible s' t'

theorem SameOutcome.next {s t : State} (h : SameVisible s t) : SameOutcome (.next s) (.next t) := by
  rintro _ ⟨⟩
  exact ⟨t, rfl, h⟩

/-- A branch on a test that both states answer alike. -/
theorem SameOutcome.ite {c d : Bool} {a a' b b' : StepResult} (hcd : c = d) (htrue : c = true → SameOutcome a a')
    (hfalse : SameOutcome b b') : SameOutcome (if c then a else b) (if d then a' else b') := by
  subst hcd
  cases c with
  | true => exact htrue rfl
  | false => exact hfalse

section

variable {s t : State} (h : SameVisible s t)

include h

theorem SameOutcome.raise (k : Cause) : SameOutcome (.next (s.raise k)) (.next (t.raise k)) :=
  .next (sameVisible_raise h k)

theorem SameOutcome.unlessFaulted {a b : StepResult} (hbody : SameOutcome a b) :
    SameOutcome (unlessFaulted s a) (unlessFaulted t b) :=
  .ite (faulted_of_sameVisible h) (fun _ => .next (sameVisible_respond h _)) hbody

/-! ### The commands -/

/-- An image is answered only where the register's group holds a value (R27, R232). -/
theorem SameOutcome.succeed_image {r : Reg} (hvalid : s.groupValid r.group = true) :
    SameOutcome (succeed (.image (s.image r)) s) (succeed (.image (t.image r)) t) := by
  rw [image_of_sameVisible h hvalid]
  exact .next (sameVisible_respond h _)

theorem execRdreg_sameOutcome (idx : Byte) : SameOutcome (execRdreg idx s) (execRdreg idx t) := by
  unfold execRdreg
  cases regOfIndex idx with
  | none => exact .unlessFaulted h (.raise h _)
  | some r =>
    cases r with
    | status | cause => exact .succeed_image h rfl
    | _ => exact .unlessFaulted h (.ite (groupValid_of_sameVisible h _) (.succeed_image h) (.raise h _))

theorem execDecodeCal_sameOutcome (b24 b1 b7 : Block) :
    SameOutcome (execDecodeCal b24 b1 b7 s) (execDecodeCal b24 b1 b7 t) := by
  refine .unlessFaulted h ?_
  cases decodeCalibration b24 b1 b7 with
  | ok c => exact .next (sameVisible_respond (sameVisible_startSession h c) _)
  | error k => exact .raise h k

theorem execLdsample_sameOutcome (p v w : BitVec 32) : SameOutcome (execLdsample p v w s) (execLdsample p v w t) :=
  .unlessFaulted h (.ite rfl (fun _ => .raise h _) (.next (sameVisible_respond (sameVisible_loadSample h _) _)))

theorem execUnpack_sameOutcome (m : Block) : SameOutcome (execUnpack m s) (execUnpack m t) := by
  refine .unlessFaulted h ?_
  cases unpackSample m with
  | ok x => exact .next (sameVisible_respond (sameVisible_loadSample h x) _)
  | error k => exact .raise h k

/-- COMPENSATE reads the record and the sample only where both are valid (R225). -/
theorem execCompensate_sameOutcome : SameOutcome (execCompensate s) (execCompensate t) := by
  have hflags : (s.calValid && s.smpValid) = (t.calValid && t.smpValid) := by
    rw [calValid_of_sameVisible h, smpValid_of_sameVisible h]
  refine .unlessFaulted h (.ite hflags (fun hvalid => ?_) (.raise h _))
  obtain ⟨hcal, hsmp⟩ := (Bool.and_eq_true _ _).mp hvalid
  rw [coef_of_sameVisible h hcal, sample_of_sameVisible h hsmp]
  exact .next (sameVisible_respond (sameVisible_storeResults h _) _)

theorem exec_sameOutcome {i : Instr} {r : Request} (hi : encode i = .cmd8 r) :
    SameOutcome (exec i s) (exec i t) := by
  cases i with
  | reset => exact .next (sameVisible_respond (sameVisible_restart h) _)
  | rdreg idx => exact execRdreg_sameOutcome h idx
  | decodeCal b24 b1 b7 => exact execDecodeCal_sameOutcome h b24 b1 b7
  | ldsample p v w => exact execLdsample_sameOutcome h p v w
  | unpack m => exact execUnpack_sameOutcome h m
  | compensate => exact execCompensate_sameOutcome h
  | _ => cases hi

/-! ### The step -/

theorem rejectFrame_sameOutcome (e : DecodeError) : SameOutcome (rejectFrame e s) (rejectFrame e t) := by
  cases e with
  | illegalCommand => exact .raise h _
  | unassignedNumber | payloadShape => exact fun _ hnext => nomatch hnext

theorem runFrame_sameOutcome (r : Request) : SameOutcome (runFrame (.cmd8 r) s) (runFrame (.cmd8 r) t) := by
  unfold runFrame
  cases hd : decode (.cmd8 r) with
  | ok i => exact exec_sameOutcome h (encode_of_decodeRequest hd)
  | error e => exact rejectFrame_sameOutcome h e

end

/-- Settles O51: both states wait, or both run the same request, whose command reads a data register only behind the
flag of its group. -/
theorem unwrittenRegistersAreUnobservable : Obligations.UnwrittenRegistersAreUnobservable := by
  intro s t s' hs h hstep
  have ht : BetweenCommands t := betweenCommands_of_sameVisible h hs
  have hinbox : s.inbox = t.inbox := inbox_of_sameVisible h
  obtain ⟨_, step_waits, _⟩ := stepRunsTheDecodedInstruction
  have hsame : SameOutcome (step s) (step t) := by
    cases hin : s.inbox with
    | nil =>
      rw [step_waits s hs hin, step_waits t ht (hinbox.symm.trans hin)]
      exact .next h
    | cons r rest =>
      rw [step_of_inbox hs hin, step_of_inbox ht (hinbox.symm.trans hin)]
      exact runFrame_sameOutcome (sameVisible_withInbox h rest) r
  exact hsame s' hstep

end Sys2Proof.Proofs
end
